-- ==== Sys2Proof/Word.lean ====
section
/-! DEFINITION. The word types of the part: bytes of the link (R170), coarse ticks (R7) and timestamps (R8). -/

namespace Sys2Proof

/-- One byte of the serial link (R170). -/
abbrev Byte := BitVec 8

/-- One count of the coarse counter, 36 bits, wrapping (R7). -/
abbrev Tick := BitVec 36

/-- One timestamp, 48 bits, in tu (R8). -/
abbrev Timestamp := BitVec 48

end Sys2Proof
end

