-- ==== Sys2Proof/Syntax.lean ====
section
/-! DEFINITION. The commands of the part: one constructor of `Instr` per row of spec/opcode_table.json, with the
data the rules say the step brings. Request rows carry a tag and their payload's raw field values (R187, R188). -/

namespace Sys2Proof

/-- The level of a line: the receive line (R170, R184) or the trigger line (R81). -/
inductive Level where
  | low
  | high
deriving DecidableEq, Repr, Inhabited

/-- Group A holds channels 0 and 1 and sites 0 to 7; group B holds channels 2 and 3 and sites 8 to 15 (R12). -/
inductive Group where
  | a
  | b
deriving DecidableEq, Repr, Inhabited

/-- A capture channel, 0 to 3 (R12). -/
abbrev ChannelId := Fin 4

/-- An oscillator site, 0 to 15 (R12). -/
abbrev Site := Fin 16

/-- A frame as it stands on the line, less its start byte and its length bytes, which the payload gives (R171). -/
structure Frame where
  /-- The kind byte. -/
  kind : Byte
  /-- The tag byte. -/
  tag : Byte
  /-- The payload bytes. -/
  payload : List Byte
  /-- The check field, as received or as computed (R172). -/
  check : BitVec 16
deriving DecidableEq, Repr, Inhabited

/-- The raw field values of a JOB_SUBMIT payload (section 11.5). An optional field is `none` when its mask bit is 0. -/
structure JobFields where
  site : Byte
  hostTag : BitVec 32
  mode : Byte
  choice : Byte
  fNom : BitVec 32
  prescale : BitVec 16
  length : BitVec 32
  spectral : Byte
  exponent : Option Byte
  bands : List (BitVec 32 × BitVec 32)
  spots : List (BitVec 32)
  trigger : Byte
  settle : BitVec 32
  floorCorrection : Byte
  limit : Option Byte
deriving DecidableEq, Repr

/-- The raw field values of a LIMIT_WRITE payload (section 11.7). An optional field is `none` when its mask bit is 0. -/
structure LimitFields where
  index : Byte
  kind : Byte
  scope : Byte
  lot : Option (BitVec 32)
  fMin : BitVec 32
  fMax : BitVec 32
  offsetMin : Option (BitVec 32)
  offsetMax : Option (BitVec 32)
  tieRms : Option (BitVec 32)
  tiePp : Option (BitVec 32)
  perRms : Option (BitVec 32)
  c2cRms : Option (BitVec 32)
  c2cPeak : Option (BitVec 32)
  band0 : Option (BitVec 32)
  band1 : Option (BitVec 32)
  band2 : Option (BitVec 32)
  band3 : Option (BitVec 32)
  spot0 : Option (BitVec 16)
  spot1 : Option (BitVec 16)
  spot2 : Option (BitVec 16)
  spot3 : Option (BitVec 16)
  stale : Byte
  passBin : Byte
  retestBin : Byte
  failBins : Vector Byte 14
deriving DecidableEq, Repr

/-- The commands. `ticks` is the number of coarse ticks from the present count of the coarse counter to the tick in
which the edge falls (R7, R16); `code` is the interpolator's raw fine code for that edge (R17). -/
inductive Instr where
  /-- POWER_ON (R185): power-on ends with the receive line and the trigger line at the levels given; `sample` is the
  first temperature sample, in quarter-degrees, or `none` when it follows power-on (R9, R185). -/
  | powerOn (receiveLine triggerLine : Level) (sample : Option Int)
  /-- GATE_END (R3): the gate in progress ends, `edges` reference edges after those already counted in it (R1). -/
  | gateEnd (edges : Nat)
  /-- MULTIPLIER_LOCK_REPORT (R2). -/
  | multiplierLockReport
  /-- MULTIPLIER_UNLOCK_REPORT (R2, R4). -/
  | multiplierUnlockReport
  /-- TEMPERATURE_SAMPLE (R9): the die temperature, in whole quarter-degrees, before the clamp. -/
  | temperatureSample (quarterDegrees : Int)
  /-- CHANNEL_CONFIG (R13). -/
  | channelConfig (tag channel : Byte) (threshold : BitVec 16) (termination edge : Byte)
  /-- CALIBRATE (R39). -/
  | calibrate (tag channel : Byte)
  /-- CAL_READ (R53). -/
  | calRead (tag channel : Byte)
  /-- CAL_SETTLING_END (R41): the selector settling of the code-density pass of the group's section runs out. -/
  | calSettlingEnd (group : Group)
  /-- CODE_DENSITY_HIT (R41): the channel of the group's section delivers a raw fine code from DITHER. -/
  | codeDensityHit (group : Group) (code : Byte)
  /-- HISTOGRAM_FULL (R41): the hit that brings the hit count to 65,536. -/
  | histogramFull (group : Group) (code : Byte)
  /-- CODE_DENSITY_PASS_END (R42): the span and table computation ends. -/
  | codeDensityPassEnd (group : Group)
  /-- FLOOR_GATE_OPEN (R44): the floor pass opens its start gate. -/
  | floorGateOpen (group : Group)
  /-- FLOOR_TIMESTAMP (R44): a REF_LOOP edge is timestamped. -/
  | floorTimestamp (group : Group) (ticks : Nat) (code : Byte)
  /-- FLOOR_EDGE_TIMEOUT (R45): the floor pass edge timeout expires. -/
  | floorEdgeTimeout (group : Group)
  /-- FLOOR_RECORD_FULL (R46): the edge that gives the 65,536th floor timestamp. -/
  | floorRecordFull (group : Group) (ticks : Nat) (code : Byte)
  /-- FLOOR_COMPUTATION_END (R46): the floor computation ends. -/
  | floorComputationEnd (group : Group)
  /-- SETTLING_END (R21): the channel reaches its settling-end tick. -/
  | settlingEnd (channel : ChannelId)
  /-- COMPARATOR_EDGE (R16): a comparator edge of the selected polarity on the channel. -/
  | comparatorEdge (channel : ChannelId) (ticks : Nat) (code : Byte)
  /-- PRESCALED_EDGE (R24): a comparator edge that brings the prescaler count to P. -/
  | prescaledEdge (channel : ChannelId) (ticks : Nat) (code : Byte)
  /-- EDGE_TIMEOUT (R26): the coarse counter reaches the channel's edge deadline. -/
  | edgeTimeout (channel : ChannelId)
  /-- RECORD_COMPLETE (R27): the prescaled edge that completes a SINGLE record. -/
  | recordComplete (channel : ChannelId) (ticks : Nat) (code : Byte)
  /-- PAIR_RECORD_FULL (R28): the prescaled edge that fills a paired channel's record. -/
  | pairRecordFull (channel : ChannelId) (ticks : Nat) (code : Byte)
  /-- TIME_PASS_END (R92). -/
  | timePassEnd
  /-- SPECTRAL_PASS_END (R131). -/
  | spectralPassEnd
  /-- ENGINE_POST (R93). -/
  | enginePost
  /-- TRIGGER_LINE_CHANGE (R81): the filter senses the trigger line at the level given. -/
  | triggerLineChange (level : Level)
  /-- QUALIFIED_EDGE (R81, R82): the qualification count reaches 25. -/
  | qualifiedEdge
  /-- TRIGGER_CONFIG (R84). -/
  | triggerConfig (tag polarity : Byte)
  /-- TRIGGER_ARM (R85). -/
  | triggerArm (tag : Byte)
  /-- TRIGGER_DISARM (R85). -/
  | triggerDisarm (tag : Byte)
  /-- JOB_SUBMIT (R57). -/
  | jobSubmit (tag : Byte) (job : JobFields)
  /-- JOB_STATUS (R76). -/
  | jobStatus (tag site : Byte)
  /-- JOB_CANCEL (R78). -/
  | jobCancel (tag site : Byte)
  /-- LIMIT_EXTENT (R142). -/
  | limitExtent (tag extent : Byte)
  /-- LIMIT_WRITE (R139). -/
  | limitWrite (tag : Byte) (entry : LimitFields)
  /-- LIMIT_READ (R140). -/
  | limitRead (tag index : Byte)
  /-- LIMIT_DELETE (R141). -/
  | limitDelete (tag index : Byte)
  /-- LIMIT_PROBE (R146). -/
  | limitProbe (tag index spectral bands spots : Byte) (fNom : BitVec 32)
  /-- LOT_OPEN (R144). -/
  | lotOpen (tag : Byte) (lot : BitVec 32)
  /-- RESULT_NEXT (R158). -/
  | resultNext (tag : Byte)
  /-- RESULT_READ (R159). -/
  | resultRead (tag site : Byte)
  /-- RESULT_CLEAR (R160). -/
  | resultClear (tag site : Byte)
  /-- NOTICE_ENABLE (R166): one on/off byte per flag, in the order of section 11.9. -/
  | noticeEnable (tag resultReady calDone refChange triggerTaken queueIdle : Byte)
  /-- NOTICE_CLEAR (R167). -/
  | noticeClear (tag flags : Byte)
  /-- IDENTIFY (R181). -/
  | identify (tag : Byte)
  /-- STATUS (R182). -/
  | status (tag : Byte)
  /-- RESET (R183). -/
  | reset (tag : Byte)
  /-- FRAME_RECEIVED (R175): a frame is complete at the receiver. -/
  | frameReceived (frame : Frame)
  /-- INTER_BYTE_GAP_EXPIRY (R174). -/
  | interByteGapExpiry
  /-- LINK_CHECK_FAULT (R177): a frame that fails a link check is complete at the receiver. -/
  | linkCheckFault (frame : Frame)
  /-- TRANSMIT_START (R179). -/
  | transmitStart
  /-- TRANSMIT_FRAME_END (R176). -/
  | transmitFrameEnd
  /-- LINK_BREAK (R184): the receive line has been low for 10 ms. -/
  | linkBreak
  /-- BREAK_DETECTOR_REARM (R184): the receive line goes high. -/
  | breakDetectorRearm
  /-- BYTE_RECEIVED (R170, R173): the stop bit of a byte is sampled at the level given. -/
  | byteReceived (byte : Byte) (stopBit : Level)
deriving DecidableEq, Repr

end Sys2Proof
end

