-- ==== Sys2Proof/Decode.lean ====
section
/-! DEFINITION. The command a table word spells. No row of spec/opcode_table.json gives bits, so no word spells one.
Frames, which do have bits, are read in Machine/Link.lean and Machine/Operands.lean (R171, R187). -/

namespace Sys2Proof

/-- No row of the table has an encoding in bits: every word spells none. -/
def decodeTableWord (_nbits _w : Nat) : Option Instr :=
  none

end Sys2Proof
end

