-- ==== Sys2Proof/Machine/State.lean ====
section
/-! DEFINITION. Everything the manual gives the part to hold, as plain data; the part right after power-on; the reasons
a step can stop. -/

namespace Sys2Proof.Machine

/-- One thing for each group (R12). -/
structure PerGroup (α : Type) where
  a : α
  b : α
deriving DecidableEq, Repr

/-! ### Timebase (spec/01) -/

/-- The four reference states (section 1.2). -/
inductive RefState where
  | absent
  | outOfRange
  | acquiring
  | locked
deriving DecidableEq, Repr

/-- What the multiplier last reported (R2). -/
inductive Multiplier where
  | unlock
  | lock
deriving DecidableEq, Repr

/-- The timebase. The coarse counter runs exactly in LOCKED (R7), so running is not a field of its own. -/
structure Timebase where
  refState : RefState
  /-- The in-lock run (R3). -/
  run : Nat
  multiplier : Multiplier
  /-- The edges counted so far in the gate in progress (R1). -/
  gateEdges : Nat
  /-- The unlock mark of the gate in progress (R1, R2). -/
  gateMark : Bool
  /-- The indication when the gate in progress began (R1). -/
  gateBegan : Multiplier
  /-- The coarse counter (R7). -/
  coarse : Tick
  /-- The die temperature reading, in quarter-degrees (R9). -/
  temperature : Int
  /-- Whether the first sample since power-on has been taken (R185). -/
  sampleTaken : Bool
deriving DecidableEq, Repr

/-! ### Capture channels (spec/02) -/

/-- Terminations (R13, section 11.3). -/
inductive Termination where
  | highZ
  | ohm50Gnd
  | ohm50Vtt
deriving DecidableEq, Repr

/-- An active edge of a comparator (R13) or of the trigger line (R84). -/
inductive Edge where
  | rising
  | falling
deriving DecidableEq, Repr

/-- A channel's configuration record: threshold in mV, termination and edge (R13). -/
structure ChannelConfig where
  threshold : Int
  termination : Termination
  edge : Edge
deriving DecidableEq, Repr

/-- Positions of the input selector (R15); `nothing` is the manual's NONE. -/
inductive Selector where
  | site (s : Site)
  | refLoop
  | dither
  | nothing
deriving DecidableEq, Repr

/-- Channel states (R18). -/
inductive ChannelState where
  | idle
  | settling
  | capturing
  | calibrating
deriving DecidableEq, Repr

/-- Bank states (R19). -/
inductive BankState where
  | free
  | filling
  | full
deriving DecidableEq, Repr

/-- A capture bank: its state and its timestamps, record index 0 first (R19). -/
structure Bank where
  state : BankState
  record : List Timestamp
deriving DecidableEq, Repr

/-- Job modes (R55). -/
inductive Mode where
  | single
  | paired
deriving DecidableEq, Repr

/-- What a capture keeps of its channel's calibration: σ_f in su and STALE, both at dispatch (section 2.4, R20). -/
structure Snapshot where
  floor : Nat
  stale : Bool
deriving DecidableEq, Repr

/-- The capture context (section 2.4). -/
structure CaptureContext where
  job : Nat
  site : Site
  mode : Mode
  prescale : Nat
  fNom : Nat
  /-- N for SINGLE, N + 1 for PAIRED. -/
  recordLength : Nat
  /-- The bank taken, 0 or 1. -/
  bank : Fin 2
  settlingEnd : Tick
  /-- −2 before the first prescaled edge, then −1, 0, 1, … -/
  nextIndex : Int
  previous : Option Timestamp
  /-- T, in coarse ticks. -/
  timeout : Nat
  /-- Present while the edge timeout runs: from the gate until the record is full (R26, R28). -/
  deadline : Option Tick
  snapshot : Snapshot
deriving DecidableEq, Repr

/-- A capture channel (spec/02). -/
structure Channel where
  config : ChannelConfig
  selector : Selector
  /-- The prescaler's ratio P (R16). -/
  ratio : Nat
  /-- The prescaler's count (R16). -/
  count : Nat
  state : ChannelState
  bank0 : Bank
  bank1 : Bank
  context : Option CaptureContext
deriving DecidableEq, Repr

/-- A pair unit (R23): its state with the job it serves and, for the lower- and the higher-numbered channel, whether the
channel has reported its settling end (SETTLING) or a full record (CAPTURING). -/
inductive PairUnit where
  | idle
  | settling (job : Nat) (lowReported highReported : Bool)
  | capturing (job : Nat) (lowFull highFull : Bool)
deriving DecidableEq, Repr

/-! ### Channel calibration (spec/03) -/

/-- Why a calibration failed (R37). -/
inductive FailCause where
  | narrowRange
  | wideCode
  | floorHigh
  | edgeFault
  | noSignal
  | refLost
deriving DecidableEq, Repr

/-- A calibration record with the fields R37 gives each of its states. -/
inductive CalRecord where
  | uncal
  | running
  | valid (temperature : Int) (low high : Nat) (table : List Nat) (floor : Nat)
  | failed (cause : FailCause) (span : Option (Nat × Nat)) (floor : Option Nat)
deriving DecidableEq, Repr

/-- The passes of a calibration (R38). -/
inductive Pass where
  | codeDensity
  | floor
deriving DecidableEq, Repr

/-- The working context of a BUSY calibration section (R38). -/
structure SectionContext where
  channel : ChannelId
  pass : Pass
  histogram : List Nat
  hits : Nat
  spanLow : Nat
  spanHigh : Nat
  /-- The working fine table, empty before it is built (R43). -/
  table : List Nat
  /-- The floor timestamps taken so far, record index 0 first (R44). -/
  timestamps : List Timestamp
  settlingEnd : Tick
  /-- Whether the selector settling of the pass in progress has run out (R41, R44). -/
  settled : Bool
  nextIndex : Int
  previous : Option Timestamp
  /-- Present while the floor pass's edge timeout runs (R44, R46). -/
  deadline : Option Tick
deriving DecidableEq, Repr

/-- A calibration section is FREE or BUSY (R38). -/
inductive CalSection where
  | free
  | busy (context : SectionContext)
deriving DecidableEq, Repr

/-! ### Jobs and group queues (spec/04) -/

/-- When a job may run (R55, field 12). -/
inductive TriggerField where
  | immediate
  | onTrigger
deriving DecidableEq, Repr

/-- The states of a live job (R63). A DONE job is no longer held. -/
inductive JobState where
  | held
  | queued
  | settling
  | capturing
  | analysisWait
  | analysing
deriving DecidableEq, Repr

/-- The record of a live job (R61): fields 1 to 15 as submitted, except that `prescale` is the P used. -/
structure Job where
  id : Nat
  site : Site
  hostTag : BitVec 32
  mode : Mode
  /-- `none` is ANY. -/
  choice : Option ChannelId
  fNom : Nat
  prescale : Nat
  /-- PRESCALE_ADJUSTED (R59). -/
  adjusted : Bool
  length : Nat
  spectral : Bool
  exponent : Option Nat
  bands : List (Nat × Nat)
  spots : List Nat
  trigger : TriggerField
  settle : Nat
  floorCorrection : Bool
  limit : Option (Fin 64)
  state : JobState
  /-- The channels dispatched to: none before dispatch, one for SINGLE, two for PAIRED (R73). -/
  channels : List ChannelId
deriving DecidableEq, Repr

/-- An entry of a group queue (R66). -/
inductive Entry where
  | job (id : Nat) (site : Site)
  | calibration (channel : ChannelId)
deriving DecidableEq, Repr

/-! ### Touchdown trigger (spec/05) -/

/-- Trigger states (R82). -/
inductive TriggerState where
  | disarmed
  | armed
deriving DecidableEq, Repr

/-- The trigger input (spec/05). -/
structure Trigger where
  state : TriggerState
  polarity : Edge
  lineLevel : Level
  /-- Whether the line has been sensed since the last reset (R87). -/
  sensed : Bool
  /-- The count of the qualification in progress (R81). -/
  qualification : Option Nat
deriving DecidableEq, Repr

/-! ### Figures, results and the analysis engine (spec/06, 07, 09) -/

/-- The fourteen figures in the order of R150. -/
inductive FigureName where
  | freqOffset
  | tieRms
  | tiePp
  | perRms
  | c2cRms
  | c2cPeak
  | band0
  | band1
  | band2
  | band3
  | spot0
  | spot1
  | spot2
  | spot3
deriving DecidableEq, Repr

/-- The flags a figure may carry (R154). -/
structure FigureFlags where
  atFloor : Bool := false
  saturated : Bool := false
  bandClipped : Bool := false
  bandEmpty : Bool := false
  offsetClipped : Bool := false
deriving DecidableEq, Repr

/-- A figure: its value when present, and its flags. -/
structure Figure where
  value : Option Int := none
  flags : FigureFlags := {}
deriving DecidableEq, Repr

/-- The fourteen figures of a result, in the order of R150. -/
abbrev Figures := Vector Figure 14

/-- The record flags (R110, R154). -/
structure RecordFlags where
  prescaleAdjusted : Bool := false
  segmentReduced : Bool := false
  spectralSkipped : Bool := false
  calStale : Bool := false
  realigned : Bool := false
  overwritten : Bool := false
deriving DecidableEq, Repr

/-- The status of a result, with its detail (R154). -/
inductive Ending where
  | complete
  | offNominal
  | pairSlip
  | edgeFault (index : Int) (channel : ChannelId)
  | noSignal (channel : ChannelId)
  | refLost
  | cancelled
deriving DecidableEq, Repr

/-- Verdicts (section 8.6); `nothing` is the manual's NONE. -/
inductive Verdict where
  | nothing
  | pass
  | fail
  | incomplete
  | retest
deriving DecidableEq, Repr

/-- A result record (R154). -/
structure ResultRecord where
  job : Nat
  site : Site
  hostTag : BitVec 32
  status : Ending
  mode : Mode
  channels : List ChannelId
  prescale : Nat
  length : Nat
  /-- The exponent of L used, when the spectral pass ran. -/
  segmentExponent : Option Nat
  flags : RecordFlags
  figures : Figures
  verdict : Verdict
  failing : List FigureName
  bin : Option Nat
deriving DecidableEq, Repr

/-- One channel's part of an analysis item (R88). -/
structure Leg where
  channel : ChannelId
  bank : Fin 2
  snapshot : Snapshot
deriving DecidableEq, Repr

/-- An analysis item (R88): channel 1 of the pair, or the one channel, in `first`. -/
structure Item where
  job : Nat
  first : Leg
  second : Option Leg
deriving DecidableEq, Repr

/-- The working result (spec/06). -/
structure Working where
  status : Ending
  flags : RecordFlags
  segmentExponent : Option Nat
  figures : Figures
deriving DecidableEq, Repr

/-- The working spectrum (R114). A power sum is an exact real number, held as the integer coefficients of powers of
e^(2πi/L), scaled by 32 (Machine/Spectral.lean, log 16). -/
structure Spectrum where
  /-- L is 2 to this power. -/
  exponent : Nat
  /-- J. -/
  segments : Nat
  /-- The segment in progress. -/
  segment : Nat
  /-- One sum per frequency bin k = 1 … L/2 − 1. -/
  sums : List (List Int)
deriving DecidableEq, Repr

/-- The analysis engine with the item it holds (R91). -/
inductive Engine where
  | idle
  | timePass (item : Item) (working : Working)
  | spectralPass (item : Item) (working : Working) (spectrum : Spectrum)
  | verdict (item : Item) (working : Working)
deriving DecidableEq, Repr

/-- A result slot (R155). -/
inductive Slot where
  | empty
  | new (record : ResultRecord)
  | read (record : ResultRecord)
deriving DecidableEq, Repr

/-- The result store (spec/09): a slot per site, and the completion list. -/
structure Results where
  slots : Vector Slot 16
  completion : List Site
deriving DecidableEq, Repr

/-! ### Limit sets and lots (spec/08) -/

/-- Kinds of limit set (R136). -/
inductive LimitKind where
  | time
  | spectral
deriving DecidableEq, Repr

/-- Stale policies (R135). -/
inductive StalePolicy where
  | accept
  | retest
deriving DecidableEq, Repr

/-- A limit set (R135). Scope GLOBAL is `lot = none`; scope LOT carries its lot tag. -/
structure LimitSet where
  kind : LimitKind
  lot : Option Nat
  fMin : Nat
  fMax : Nat
  offsetMin : Option Int
  offsetMax : Option Int
  /-- The maxima of TIE_RMS … SPOT3, in the order of R150 after FREQ_OFFSET. -/
  maxima : Vector (Option Int) 13
  stalePolicy : StalePolicy
  passBin : Nat
  retestBin : Nat
  /-- One per figure, in the order of R150. -/
  failBins : Vector Nat 14
deriving DecidableEq, Repr

/-- The limit table (spec/08). -/
structure LimitTable where
  entries : Vector (Option LimitSet) 64
  extent : Nat
  inUse : Vector Nat 64
  currentLot : Nat
deriving DecidableEq, Repr

/-! ### Notice unit (spec/09) -/

/-- The five notice flags (R162). -/
inductive NoticeFlag where
  | resultReady
  | calDone
  | refChange
  | triggerTaken
  | queueIdle
deriving DecidableEq, Repr

/-- One bit for each notice flag (section 11.9). -/
structure FlagSet where
  resultReady : Bool := false
  calDone : Bool := false
  refChange : Bool := false
  triggerTaken : Bool := false
  queueIdle : Bool := false
deriving DecidableEq, Repr

/-- The notice unit. -/
structure Notices where
  flags : FlagSet
  enables : FlagSet
  due : Bool
  /-- Whether the idle condition holds, as the unit last followed it (R164). -/
  idleHolds : Bool
deriving DecidableEq, Repr

/-! ### Link interface (spec/10) -/

/-- The receiver with its partial frame: the bytes after the start byte, and the length once known (R173). -/
inductive Receiver where
  | hunt
  | header (got : List Byte)
  | body (length : Nat) (got : List Byte)
  | check (length : Nat) (got : List Byte)
deriving DecidableEq, Repr

/-- The request server with the server reply (R176). -/
inductive Server where
  | idle
  | replying (reply : Frame)
  | resetPending (reply : Frame)
deriving DecidableEq, Repr

/-- What the transmitter is sending (R179). -/
inductive Source where
  | fault
  | notice
  | serverReply
deriving DecidableEq, Repr

/-- The transmitter: between frames, sending one frame, or, after a LINK_BREAK that cut a frame off, still sending the byte
it was at (R184, R186). -/
inductive Transmitter where
  | betweenFrames
  | sending (source : Source) (frame : Frame)
  | finishingByte
deriving DecidableEq, Repr

/-- The break detector (R184). -/
inductive Detector where
  | armed
  | spent
deriving DecidableEq, Repr

/-- Reset causes (R185). -/
inductive ResetCause where
  | powerOn
  | resetRequest
  | linkBreak
deriving DecidableEq, Repr

/-- The link interface. -/
structure Link where
  receiver : Receiver
  hold : List Frame
  faults : List Frame
  server : Server
  transmitter : Transmitter
  noticeTag : Byte
  detector : Detector
  /-- How long the receive line has been low, in periods of the 25 MHz oscillator (R184, log 17). -/
  lowPeriods : Nat
  resetCause : ResetCause
deriving DecidableEq, Repr

/-! ### The part -/

/-- The whole part, the number of the next free value, and the commands waiting, first in first out. -/
structure State where
  timebase : Timebase
  channels : Vector Channel 4
  pairs : PerGroup PairUnit
  records : Vector CalRecord 4
  sections : PerGroup CalSection
  jobs : Vector (Option Job) 16
  jobCounter : Nat
  queues : PerGroup (List Entry)
  trigger : Trigger
  analysisQueue : List Item
  engine : Engine
  limits : LimitTable
  results : Results
  notices : Notices
  link : Link
  freeIndex : Nat
  pending : List Instr
deriving DecidableEq, Repr

/-- The manual describes no event that stops the part: what fails ends as a status of a reply or a result (R29, R49,
R177), so there is no fault to name. -/
inductive Fault where
deriving DecidableEq, Repr

/-- Why a command has no meaning here. -/
inductive Refusal where
  /-- Raised only by an arm of `exec` whose command has no meaning yet: safe, since nothing is claimed of it. -/
  | notModelled (mnemonic : String)
deriving DecidableEq, Repr

/-- A FREE bank, empty (R36). -/
def Bank.empty : Bank :=
  { state := .free, record := [] }

/-- The configuration record after POWER_ON (R36). -/
def ChannelConfig.powerOn : ChannelConfig :=
  { threshold := 0, termination := .ohm50Gnd, edge := .rising }

/-- A channel after a reset, with the configuration record given (R36). -/
def Channel.afterReset (config : ChannelConfig) : Channel :=
  { config, selector := .nothing, ratio := 1, count := 0, state := .idle, bank0 := .empty, bank1 := .empty, context := none }

/-- The timebase after POWER_ON with the first temperature sample given, or none yet (R11, R185). The value held before
the first sample is 0 (log 9). -/
def Timebase.powerOn (temperature : Option Int) : Timebase :=
  { refState := .absent, run := 0, multiplier := .unlock, gateEdges := 0, gateMark := false, gateBegan := .unlock,
    coarse := 0, temperature := temperature.getD 0, sampleTaken := temperature.isSome }

/-- The limit table after any reset (R153). -/
def LimitTable.afterReset : LimitTable :=
  { entries := Vector.replicate 64 none, extent := 16, inUse := Vector.replicate 64 0, currentLot := 0 }

/-- The result store after any reset (R169). -/
def Results.afterReset : Results :=
  { slots := Vector.replicate 16 .empty, completion := [] }

/-- The notice unit after any reset (R169). -/
def Notices.afterReset : Notices :=
  { flags := {}, enables := {}, due := false, idleHolds := true }

/-- The trigger input after any reset; the line level is the one last sensed, until it is sensed afresh (R87, log 21). -/
def Trigger.afterReset (lineLevel : Level) : Trigger :=
  { state := .disarmed, polarity := .rising, lineLevel, sensed := false, qualification := none }

/-- The link interface after a reset of the cause given (R186). -/
def Link.afterReset (transmitter : Transmitter) (detector : Detector) (lowPeriods : Nat) (cause : ResetCause) : Link :=
  { receiver := .hunt, hold := [], faults := [], server := .idle, transmitter, noticeTag := 0,
    detector, lowPeriods, resetCause := cause }

/-- The part right after POWER_ON, its first temperature sample taken: every value as the tables of R11, R36, R54, R80,
R87, R113, R153, R169 and R186 give it. The manual gives no value for the first sample nor for the levels of the receive
and the trigger line at power-on: here 0, high and low (log 9). -/
def State.reset : State :=
  { timebase := Timebase.powerOn (some 0)
    channels := Vector.replicate 4 (Channel.afterReset .powerOn)
    pairs := { a := .idle, b := .idle }
    records := Vector.replicate 4 .uncal
    sections := { a := .free, b := .free }
    jobs := Vector.replicate 16 none
    jobCounter := 1
    queues := { a := [], b := [] }
    trigger := Trigger.afterReset .low
    analysisQueue := []
    engine := .idle
    limits := LimitTable.afterReset
    results := Results.afterReset
    notices := Notices.afterReset
    link := Link.afterReset .betweenFrames .armed 0 .powerOn
    freeIndex := 0
    pending := [] }

end Sys2Proof.Machine
end

