-- ==== Sys2Proof/Machine/Arithmetic.lean ====
section
/-! DEFINITION. The arithmetic the rules share: differences of timestamps, the roundings of the Conventions, whole
square roots, exact real numbers of the form a + b × 2cos(2π/L) by nested pairs, whose sign is found exactly, and enclosures
of π. -/

namespace Sys2Proof.Machine

/-- The forward difference of `b` after `a`, in tu (R8). -/
def forwardDifference (b a : Timestamp) : Nat :=
  (b - a).toNat

/-- The signed difference of `b` and `a`, in tu (R8). -/
def signedDifference (b a : Timestamp) : Int :=
  (b - a).toInt

/-- `num / den` to the nearest integer, ties up (Conventions). -/
def roundTiesUp (num : Int) (den : Nat) : Int :=
  (2 * num + den) / (2 * den)

/-- `num / den` to the nearest integer, ties away from zero (Conventions). -/
def roundTiesAway (num : Int) (den : Nat) : Int :=
  if 0 ≤ num then roundTiesUp num den else -roundTiesUp (-num) den

/-- `num / den` rounded up to an integer (Conventions). -/
def ceilDiv (num den : Nat) : Nat :=
  (num + den - 1) / den

/-- The greatest `r + n` with `n < 2^bits` that `holds`, for a test that holds up to some point and fails after it and
that holds at `r`: found bit by bit from the most significant. -/
def greatestFrom (holds : Nat → Bool) : (bits : Nat) → (r : Nat) → Nat
  | 0, r => r
  | bits + 1, r => if holds (r + 2 ^ bits) then greatestFrom holds bits (r + 2 ^ bits) else greatestFrom holds bits r

/-- The whole part of the square root. -/
def wholeRoot (n : Nat) : Nat :=
  greatestFrom (fun r => decide (r * r ≤ n)) (Nat.log2 n / 2 + 1) 0

/-- The square root of `num / den` to the nearest integer, ties up: ⌊√x + 1/2⌋ = ⌊(⌊√(4x)⌋ + 1) / 2⌋. -/
def rootRounded (num den : Nat) : Nat :=
  (wholeRoot (4 * num / den) + 1) / 2

/-- The sum of a list of integers. -/
def sumInt (l : List Int) : Int :=
  l.foldl (· + ·) 0

/-- The sum of the squares of a list of integers. -/
def sumSquares (l : List Int) : Int :=
  sumInt (l.map fun x => x * x)

/-! ### Exact real numbers

Let c₀ = 0 and c₍ₘ₊₁₎ = √(2 + c₍ₘ₎), so that c₍ₘ₎ = 2cos(2π/2^(m+2)). A surd of level 0 is an integer, and a surd
(a, b) of level m + 1 is the real number a + b × c₍ₘ₊₁₎ with a and b of level m. -/

/-- Surds of a level. -/
def Surd : Nat → Type
  | 0 => Int
  | m + 1 => Surd m × Surd m

/-- An integer as a surd. -/
def surdOfInt : (m : Nat) → Int → Surd m
  | 0, z => z
  | m + 1, z => (surdOfInt m z, surdOfInt m 0)

/-- c₍ₘ₎ as a surd of level m. -/
def surdCos : (m : Nat) → Surd m
  | 0 => surdOfInt 0 0
  | m + 1 => (surdOfInt m 0, surdOfInt m 1)

/-- Sums of surds. -/
def surdAdd : (m : Nat) → Surd m → Surd m → Surd m
  | 0, x, y => Int.add x y
  | m + 1, (a, b), (c, d) => (surdAdd m a c, surdAdd m b d)

/-- The negative of a surd. -/
def surdNeg : (m : Nat) → Surd m → Surd m
  | 0, x => Int.neg x
  | m + 1, (a, b) => (surdNeg m a, surdNeg m b)

/-- Products of surds: (a + b c)(a' + b' c) with c² = 2 + the c of the level below. -/
def surdMul : (m : Nat) → Surd m → Surd m → Surd m
  | 0, x, y => Int.mul x y
  | m + 1, (a, b), (c, d) =>
    (surdAdd m (surdMul m a c) (surdMul m (surdMul m b d) (surdAdd m (surdOfInt m 2) (surdCos m))),
      surdAdd m (surdMul m a d) (surdMul m b c))

/-- The sign of a surd, −1, 0 or 1. When a and b × c differ in sign, the sign of a² − b² × c² decides. -/
def surdSign : (m : Nat) → Surd m → Int
  | 0, x => Int.sign x
  | m + 1, (a, b) =>
    let sa := surdSign m a
    let sb := surdSign m b
    if sb = 0 then sa
    else if sa = 0 then sb
    else if sa = sb then sa
    else
      sa * surdSign m
        (surdAdd m (surdMul m a a)
          (surdNeg m (surdMul m (surdMul m b b) (surdAdd m (surdOfInt m 2) (surdCos m)))))

/-- Powers of a surd. -/
def surdPow (m : Nat) (x : Surd m) : Nat → Surd m
  | 0 => surdOfInt m 1
  | n + 1 => surdMul m (surdPow m x n) x

/-- The pair 2cos(iθ), 2cos((i+1)θ) for θ = 2π/2^(m+2), by 2cos((i+1)θ) = 2cosθ × 2cos(iθ) − 2cos((i−1)θ). -/
def surdCosPair (m : Nat) : Nat → Surd m × Surd m
  | 0 => (surdOfInt m 2, surdCos m)
  | i + 1 =>
    let p := surdCosPair m i
    (p.2, surdAdd m (surdMul m (surdCos m) p.2) (surdNeg m p.1))

/-- 2cos(iθ) for θ = 2π/2^(m+2). -/
def surdCosMultiple (m i : Nat) : Surd m :=
  (surdCosPair m i).1

/-! ### Enclosures of π

π is 16 arctan (1/5) − 4 arctan (1/239), and the sums of the first terms of an arctangent's series lie below it and above
it in turn. -/

/-- The sum of so many terms of the series of arctan (1/x). -/
def arctanTerms (x : Nat) : Nat → ℚ
  | 0 => 0
  | n + 1 => arctanTerms x n + (-1) ^ n / ((2 * n + 1) * x ^ (2 * n + 1))

/-- The k-th lower bound of π. -/
def piBelow (k : Nat) : ℚ :=
  16 * arctanTerms 5 (2 * k + 2) - 4 * arctanTerms 239 (2 * k + 1)

/-- The k-th upper bound of π. -/
def piAbove (k : Nat) : ℚ :=
  16 * arctanTerms 5 (2 * k + 1) - 4 * arctanTerms 239 (2 * k + 2)

/-! ### First answers -/

/-- The first answer from the k-th on, among so many. -/
def answerWithin (answer : Nat → Option Bool) : (count : Nat) → (k : Nat) → Option Bool
  | 0, _ => none
  | count + 1, k =>
    match answer k with
    | some b => some b
    | none => answerWithin answer count (k + 1)

/-- The first answer from the k-th on, or none when there is none at all. -/
def answerFrom (answer : Nat → Option Bool) (k : Nat) : Option Bool :=
  match answer k with
  | some b => some b
  | none => answerFrom answer (k + 1)
partial_fixpoint

/-- The first answer of all, or true when there is none at all. The first 64 are tried apart, so that an answer among them
is found by evaluation. -/
def firstAnswer (answer : Nat → Option Bool) : Bool :=
  match answerWithin answer 64 0 with
  | some b => b
  | none => (answerFrom answer 64).getD true

end Sys2Proof.Machine
end

