-- ==== Sys2Proof/Machine/Operands.lean ====
section
/-! DEFINITION. The payload encodings of spec/11: integers, named values, presence masks and lists (R187), the 23
request payloads in both directions, and the codes of kinds, statuses and named values. -/

namespace Sys2Proof.Machine

/-! ### Integers, little-endian (R187) -/

/-- The two bytes of a 16-bit field. -/
def bytes16 (x : BitVec 16) : List Byte :=
  [x.extractLsb' 0 8, x.extractLsb' 8 8]

/-- The four bytes of a 32-bit field. -/
def bytes32 (x : BitVec 32) : List Byte :=
  [x.extractLsb' 0 8, x.extractLsb' 8 8, x.extractLsb' 16 8, x.extractLsb' 24 8]

/-- The 16-bit field in two bytes, least significant first. -/
def word16 (b0 b1 : Byte) : BitVec 16 :=
  b1 ++ b0

/-- The 32-bit field in four bytes, least significant first. -/
def word32 (b0 b1 b2 b3 : Byte) : BitVec 32 :=
  (b3 ++ b2 : BitVec 16) ++ (b1 ++ b0 : BitVec 16)

/-- A natural number as one byte. -/
def byteOfNat (n : Nat) : Byte :=
  BitVec.ofNat 8 n

/-- A natural number in two bytes. -/
def bytes16OfNat (n : Nat) : List Byte :=
  bytes16 (BitVec.ofNat 16 n)

/-- A natural number in four bytes. -/
def bytes32OfNat (n : Nat) : List Byte :=
  bytes32 (BitVec.ofNat 32 n)

/-- A signed number in two bytes, two's complement. -/
def bytes16OfInt (z : Int) : List Byte :=
  bytes16 (BitVec.ofInt 16 z)

/-- A signed number in four bytes, two's complement. -/
def bytes32OfInt (z : Int) : List Byte :=
  bytes32 (BitVec.ofInt 32 z)

/-- One bit as a byte: a yes/no or on/off field (R187). -/
def byteOfBool (b : Bool) : Byte :=
  if b then 1 else 0

/-- Eight bits as a byte, bit 0 first (R187). -/
def byteOfBits (b0 b1 b2 b3 b4 b5 b6 b7 : Bool) : Byte :=
  BitVec.cons b7 (BitVec.cons b6 (BitVec.cons b5 (BitVec.cons b4
    (BitVec.cons b3 (BitVec.cons b2 (BitVec.cons b1 (BitVec.ofBool b0)))))))

/-- The absence mark of a one-byte item (R189). -/
def absentByte : Byte :=
  0xFF

/-! ### Kind codes (section 11.3) and status codes (section 11.4) -/

/-- The kind byte of a LINK_FAULT reply. -/
def kindLinkFault : Byte :=
  0xE0

/-- The kind byte of a NOTICE. -/
def kindNotice : Byte :=
  0xF0

/-- The statuses a reply can carry (R178). -/
inductive Status where
  | ok
  | busy
  | badCrc
  | unknownKind
  | badLength
  | badField
  | channelBusy
  | siteBusy
  | limitRange
  | limitAbsent
  | limitKind
  | limitScope
  | limitFreq
  | limitInUse
  | extentBlocked
  | lotBusy
  | noJob
  | triggerArmed
  | noResult
deriving DecidableEq, Repr

/-- Status codes (section 11.4). -/
def statusCode : Status → Byte
  | .ok => 0x00
  | .busy => 0x01
  | .badCrc => 0x02
  | .unknownKind => 0x03
  | .badLength => 0x04
  | .badField => 0x05
  | .channelBusy => 0x10
  | .siteBusy => 0x20
  | .limitRange => 0x21
  | .limitAbsent => 0x22
  | .limitKind => 0x23
  | .limitScope => 0x24
  | .limitFreq => 0x25
  | .limitInUse => 0x26
  | .extentBlocked => 0x27
  | .lotBusy => 0x28
  | .noJob => 0x30
  | .triggerArmed => 0x38
  | .noResult => 0x40

/-- A reply payload that carries a status and nothing else (R178). -/
def refusal (status : Status) : List Byte :=
  [statusCode status]

/-- A BAD_FIELD reply payload: the status and the field's number (R178, R188). -/
def badField (number : Nat) : List Byte :=
  [statusCode .badField, byteOfNat number]

/-- An OK reply payload with its content (R178). -/
def okReply (content : List Byte) : List Byte :=
  statusCode .ok :: content

/-! ### Codes of named values (sections 11.3, 11.5 to 11.10) -/

def terminationCode : Termination → Byte
  | .highZ => 0
  | .ohm50Gnd => 1
  | .ohm50Vtt => 2

def terminationOf (b : Byte) : Option Termination :=
  if b = 0 then some .highZ else if b = 1 then some .ohm50Gnd else if b = 2 then some .ohm50Vtt else none

def edgeCode : Edge → Byte
  | .rising => 0
  | .falling => 1

def edgeOf (b : Byte) : Option Edge :=
  if b = 0 then some .rising else if b = 1 then some .falling else none

/-- A yes/no or on/off byte (R187); 2 or more is no value (R188). -/
def boolOf (b : Byte) : Option Bool :=
  if b = 0 then some false else if b = 1 then some true else none

def modeCode : Mode → Byte
  | .single => 0
  | .paired => 1

def modeOf (b : Byte) : Option Mode :=
  if b = 0 then some .single else if b = 1 then some .paired else none

def triggerFieldCode : TriggerField → Byte
  | .immediate => 0
  | .onTrigger => 1

def triggerFieldOf (b : Byte) : Option TriggerField :=
  if b = 0 then some .immediate else if b = 1 then some .onTrigger else none

def limitKindCode : LimitKind → Byte
  | .time => 0
  | .spectral => 1

def limitKindOf (b : Byte) : Option LimitKind :=
  if b = 0 then some .time else if b = 1 then some .spectral else none

def stalePolicyCode : StalePolicy → Byte
  | .accept => 0
  | .retest => 1

def stalePolicyOf (b : Byte) : Option StalePolicy :=
  if b = 0 then some .accept else if b = 1 then some .retest else none

def jobStateCode : JobState → Byte
  | .held => 0
  | .queued => 1
  | .settling => 2
  | .capturing => 3
  | .analysisWait => 4
  | .analysing => 5

def endingCode : Ending → Byte
  | .complete => 0
  | .offNominal => 1
  | .pairSlip => 2
  | .edgeFault _ _ => 3
  | .noSignal _ => 4
  | .refLost => 5
  | .cancelled => 6

def verdictCode : Verdict → Byte
  | .nothing => 0
  | .pass => 1
  | .fail => 2
  | .incomplete => 3
  | .retest => 4

def calStateCode : CalRecord → Byte
  | .uncal => 0
  | .running => 1
  | .valid _ _ _ _ _ => 2
  | .failed _ _ _ => 3

def failCauseCode : FailCause → Byte
  | .narrowRange => 0
  | .wideCode => 1
  | .floorHigh => 2
  | .edgeFault => 3
  | .noSignal => 4
  | .refLost => 5

def passCode : Pass → Byte
  | .codeDensity => 0
  | .floor => 1

def resetCauseCode : ResetCause → Byte
  | .powerOn => 0
  | .resetRequest => 1
  | .linkBreak => 2

def refStateCode : RefState → Byte
  | .absent => 0
  | .outOfRange => 1
  | .acquiring => 2
  | .locked => 3

def multiplierCode : Multiplier → Byte
  | .unlock => 0
  | .lock => 1

def channelStateCode : ChannelState → Byte
  | .idle => 0
  | .settling => 1
  | .capturing => 2
  | .calibrating => 3

def selectorCode : Selector → Byte
  | .site s => byteOfNat s.val
  | .refLoop => 16
  | .dither => 17
  | .nothing => 18

def bankStateCode : BankState → Byte
  | .free => 0
  | .filling => 1
  | .full => 2

def pairCode : PairUnit → Byte
  | .idle => 0
  | .settling _ _ _ => 1
  | .capturing _ _ _ => 2

def engineCode : Engine → Byte
  | .idle => 0
  | .timePass _ _ => 1
  | .spectralPass _ _ _ => 2
  | .verdict _ _ => 3

def slotCode : Slot → Byte
  | .empty => 0
  | .new _ => 1
  | .read _ => 2

def triggerStateCode : TriggerState → Byte
  | .disarmed => 0
  | .armed => 1

def levelCode : Level → Byte
  | .low => 0
  | .high => 1

def groupCode : Group → Byte
  | .a => 0
  | .b => 1

def channelCode (c : ChannelId) : Byte :=
  byteOfNat c.val

def siteCode (s : Site) : Byte :=
  byteOfNat s.val

/-- A channel byte in range (R188). -/
def channelOf (b : Byte) : Option ChannelId :=
  if h : b.toNat < 4 then some ⟨b.toNat, h⟩ else none

/-- A site byte in range (R188). -/
def siteOf (b : Byte) : Option Site :=
  if h : b.toNat < 16 then some ⟨b.toNat, h⟩ else none

/-- A limit index byte in range (R188). -/
def limitIndexOf (b : Byte) : Option (Fin 64) :=
  if h : b.toNat < 64 then some ⟨b.toNat, h⟩ else none

/-! ### Requests -/

/-- A request whose payload has the layout of its kind: its raw field values (R187). -/
inductive Request where
  | identify
  | status
  | channelConfig (channel : Byte) (threshold : BitVec 16) (termination edge : Byte)
  | calibrate (channel : Byte)
  | calRead (channel : Byte)
  | limitExtent (extent : Byte)
  | limitWrite (entry : LimitFields)
  | limitRead (index : Byte)
  | limitDelete (index : Byte)
  | limitProbe (index spectral bands spots : Byte) (fNom : BitVec 32)
  | lotOpen (lot : BitVec 32)
  | jobSubmit (job : JobFields)
  | jobStatus (site : Byte)
  | jobCancel (site : Byte)
  | triggerConfig (polarity : Byte)
  | triggerArm
  | triggerDisarm
  | resultNext
  | resultRead (site : Byte)
  | resultClear (site : Byte)
  | noticeEnable (resultReady calDone refChange triggerTaken queueIdle : Byte)
  | noticeClear (flags : Byte)
  | reset
deriving DecidableEq, Repr

/-- Request kind codes (section 11.3). -/
def requestKind : Request → Byte
  | .identify => 0x01
  | .status => 0x02
  | .channelConfig _ _ _ _ => 0x03
  | .calibrate _ => 0x04
  | .calRead _ => 0x05
  | .limitExtent _ => 0x06
  | .limitWrite _ => 0x07
  | .limitRead _ => 0x08
  | .limitDelete _ => 0x09
  | .limitProbe _ _ _ _ _ => 0x0A
  | .lotOpen _ => 0x0B
  | .jobSubmit _ => 0x0C
  | .jobStatus _ => 0x0D
  | .jobCancel _ => 0x0E
  | .triggerConfig _ => 0x0F
  | .triggerArm => 0x10
  | .triggerDisarm => 0x11
  | .resultNext => 0x12
  | .resultRead _ => 0x13
  | .resultClear _ => 0x14
  | .noticeEnable _ _ _ _ _ => 0x15
  | .noticeClear _ => 0x16
  | .reset => 0x17

/-- Whether a kind byte is one of the 23 request kinds (R177, section 11.3). -/
def isRequestKind (kind : Byte) : Bool :=
  decide (1 ≤ kind.toNat) && decide (kind.toNat ≤ 0x17)

/-- An optional one-byte field, present when its mask bit is 1 (R187). -/
def optional8 : Option Byte → List Byte
  | none => []
  | some b => [b]

/-- An optional two-byte field. -/
def optional16 : Option (BitVec 16) → List Byte
  | none => []
  | some x => bytes16 x

/-- An optional four-byte field. -/
def optional32 : Option (BitVec 32) → List Byte
  | none => []
  | some x => bytes32 x

/-- A band list, f_lo then f_hi (section 11.5). -/
def bandBytes : List (BitVec 32 × BitVec 32) → List Byte
  | [] => []
  | band :: rest => bytes32 band.1 ++ bytes32 band.2 ++ bandBytes rest

/-- A spot list (section 11.5). -/
def spotBytes : List (BitVec 32) → List Byte
  | [] => []
  | spot :: rest => bytes32 spot ++ spotBytes rest

/-- The JOB_SUBMIT payload (section 11.5). -/
def jobPayload (f : JobFields) : List Byte :=
  [byteOfBits f.exponent.isSome f.limit.isSome false false false false false false,
    byteOfNat f.bands.length, byteOfNat f.spots.length, f.site]
  ++ bytes32 f.hostTag ++ [f.mode, f.choice] ++ bytes32 f.fNom ++ bytes16 f.prescale ++ bytes32 f.length
  ++ [f.spectral, f.trigger] ++ bytes32 f.settle ++ [f.floorCorrection]
  ++ optional8 f.exponent ++ optional8 f.limit ++ bandBytes f.bands ++ spotBytes f.spots

/-- The optional fields of a limit entry, in the order of their mask bits (section 11.7). -/
def limitOptionalBytes (f : LimitFields) : List Byte :=
  optional32 f.lot ++ optional32 f.offsetMin ++ optional32 f.offsetMax ++ optional32 f.tieRms ++ optional32 f.tiePp
  ++ optional32 f.perRms ++ optional32 f.c2cRms ++ optional32 f.c2cPeak ++ optional32 f.band0 ++ optional32 f.band1
  ++ optional32 f.band2 ++ optional32 f.band3 ++ optional16 f.spot0 ++ optional16 f.spot1 ++ optional16 f.spot2
  ++ optional16 f.spot3

/-- A limit entry, the LIMIT_WRITE payload (section 11.7). -/
def limitPayload (f : LimitFields) : List Byte :=
  [byteOfBits f.lot.isSome f.offsetMin.isSome f.offsetMax.isSome f.tieRms.isSome f.tiePp.isSome f.perRms.isSome
      f.c2cRms.isSome f.c2cPeak.isSome,
    byteOfBits f.band0.isSome f.band1.isSome f.band2.isSome f.band3.isSome f.spot0.isSome f.spot1.isSome
      f.spot2.isSome f.spot3.isSome,
    f.index, f.kind, f.scope]
  ++ bytes32 f.fMin ++ bytes32 f.fMax ++ [f.stale, f.passBin, f.retestBin] ++ f.failBins.toList
  ++ limitOptionalBytes f

/-- The payload of a request (sections 11.3, 11.5, 11.7). -/
def requestPayload : Request → List Byte
  | .identify => []
  | .status => []
  | .channelConfig channel threshold termination edge => [channel] ++ bytes16 threshold ++ [termination, edge]
  | .calibrate channel => [channel]
  | .calRead channel => [channel]
  | .limitExtent extent => [extent]
  | .limitWrite entry => limitPayload entry
  | .limitRead index => [index]
  | .limitDelete index => [index]
  | .limitProbe index spectral bands spots fNom => [index, spectral, bands, spots] ++ bytes32 fNom
  | .lotOpen lot => bytes32 lot
  | .jobSubmit job => jobPayload job
  | .jobStatus site => [site]
  | .jobCancel site => [site]
  | .triggerConfig polarity => [polarity]
  | .triggerArm => []
  | .triggerDisarm => []
  | .resultNext => []
  | .resultRead site => [site]
  | .resultClear site => [site]
  | .noticeEnable resultReady calDone refChange triggerTaken queueIdle =>
    [resultReady, calDone, refChange, triggerTaken, queueIdle]
  | .noticeClear flags => [flags]
  | .reset => []

/-! ### Reading request payloads (R177 check 3, R187) -/

/-- An optional one-byte field from the front of the bytes, when its mask bit is set. -/
def takeOptional8 (present : Bool) (bytes : List Byte) : Option (Option Byte × List Byte) :=
  if present then
    match bytes with
    | b :: rest => some (some b, rest)
    | [] => none
  else some (none, bytes)

/-- An optional two-byte field from the front of the bytes. -/
def takeOptional16 (present : Bool) (bytes : List Byte) : Option (Option (BitVec 16) × List Byte) :=
  if present then
    match bytes with
    | b0 :: b1 :: rest => some (some (word16 b0 b1), rest)
    | _ => none
  else some (none, bytes)

/-- An optional four-byte field from the front of the bytes. -/
def takeOptional32 (present : Bool) (bytes : List Byte) : Option (Option (BitVec 32) × List Byte) :=
  if present then
    match bytes with
    | b0 :: b1 :: b2 :: b3 :: rest => some (some (word32 b0 b1 b2 b3), rest)
    | _ => none
  else some (none, bytes)

/-- So many bands from the front of the bytes. -/
def takeBands : Nat → List Byte → Option (List (BitVec 32 × BitVec 32) × List Byte)
  | 0, bytes => some ([], bytes)
  | n + 1, l0 :: l1 :: l2 :: l3 :: h0 :: h1 :: h2 :: h3 :: bytes =>
    (takeBands n bytes).map fun taken => ((word32 l0 l1 l2 l3, word32 h0 h1 h2 h3) :: taken.1, taken.2)
  | _ + 1, _ => none

/-- So many spot offsets from the front of the bytes. -/
def takeSpots : Nat → List Byte → Option (List (BitVec 32) × List Byte)
  | 0, bytes => some ([], bytes)
  | n + 1, b0 :: b1 :: b2 :: b3 :: bytes =>
    (takeSpots n bytes).map fun taken => (word32 b0 b1 b2 b3 :: taken.1, taken.2)
  | _ + 1, _ => none

/-- A JOB_SUBMIT payload of the required length, taking each count byte as received; a mask with an unassigned bit
describes no layout (R187). -/
def readJob : List Byte → Option JobFields
  | mask :: bandCount :: spotCount :: site :: t0 :: t1 :: t2 :: t3 :: mode :: choice :: f0 :: f1 :: f2 :: f3 :: p0 :: p1
      :: n0 :: n1 :: n2 :: n3 :: spectral :: trigger :: s0 :: s1 :: s2 :: s3 :: floorCorrection :: rest =>
    if 4 ≤ mask.toNat then none
    else do
      let (exponent, rest) ← takeOptional8 (mask.getLsbD 0) rest
      let (limit, rest) ← takeOptional8 (mask.getLsbD 1) rest
      let (bands, rest) ← takeBands bandCount.toNat rest
      let (spots, rest) ← takeSpots spotCount.toNat rest
      if rest.isEmpty then
        some { site, hostTag := word32 t0 t1 t2 t3, mode, choice, fNom := word32 f0 f1 f2 f3, prescale := word16 p0 p1,
               length := word32 n0 n1 n2 n3, spectral, exponent, bands, spots, trigger, settle := word32 s0 s1 s2 s3,
               floorCorrection, limit }
      else none
  | _ => none

/-- A LIMIT_WRITE payload of the required length (R187, section 11.7). -/
def readLimit : List Byte → Option LimitFields
  | m0 :: m1 :: index :: kind :: scope :: l0 :: l1 :: l2 :: l3 :: h0 :: h1 :: h2 :: h3 :: stale :: passBin :: retestBin
      :: b0 :: b1 :: b2 :: b3 :: b4 :: b5 :: b6 :: b7 :: b8 :: b9 :: b10 :: b11 :: b12 :: b13 :: rest => do
    let (lot, rest) ← takeOptional32 (m0.getLsbD 0) rest
    let (offsetMin, rest) ← takeOptional32 (m0.getLsbD 1) rest
    let (offsetMax, rest) ← takeOptional32 (m0.getLsbD 2) rest
    let (tieRms, rest) ← takeOptional32 (m0.getLsbD 3) rest
    let (tiePp, rest) ← takeOptional32 (m0.getLsbD 4) rest
    let (perRms, rest) ← takeOptional32 (m0.getLsbD 5) rest
    let (c2cRms, rest) ← takeOptional32 (m0.getLsbD 6) rest
    let (c2cPeak, rest) ← takeOptional32 (m0.getLsbD 7) rest
    let (band0, rest) ← takeOptional32 (m1.getLsbD 0) rest
    let (band1, rest) ← takeOptional32 (m1.getLsbD 1) rest
    let (band2, rest) ← takeOptional32 (m1.getLsbD 2) rest
    let (band3, rest) ← takeOptional32 (m1.getLsbD 3) rest
    let (spot0, rest) ← takeOptional16 (m1.getLsbD 4) rest
    let (spot1, rest) ← takeOptional16 (m1.getLsbD 5) rest
    let (spot2, rest) ← takeOptional16 (m1.getLsbD 6) rest
    let (spot3, rest) ← takeOptional16 (m1.getLsbD 7) rest
    if rest.isEmpty then
      some { index, kind, scope, lot, fMin := word32 l0 l1 l2 l3, fMax := word32 h0 h1 h2 h3, offsetMin, offsetMax, tieRms,
             tiePp, perRms, c2cRms, c2cPeak, band0, band1, band2, band3, spot0, spot1, spot2, spot3, stale, passBin,
             retestBin, failBins := #v[b0, b1, b2, b3, b4, b5, b6, b7, b8, b9, b10, b11, b12, b13] }
    else none
  | _ => none

/-- The request in a payload of one byte or none, by its kind (section 11.3). -/
def readShort (kind : Nat) (payload : List Byte) : Option Request :=
  match kind, payload with
  | 0x01, [] => some .identify
  | 0x02, [] => some .status
  | 0x04, [b] => some (.calibrate b)
  | 0x05, [b] => some (.calRead b)
  | 0x06, [b] => some (.limitExtent b)
  | 0x08, [b] => some (.limitRead b)
  | 0x09, [b] => some (.limitDelete b)
  | 0x0D, [b] => some (.jobStatus b)
  | 0x0E, [b] => some (.jobCancel b)
  | 0x0F, [b] => some (.triggerConfig b)
  | 0x10, [] => some .triggerArm
  | 0x11, [] => some .triggerDisarm
  | 0x12, [] => some .resultNext
  | 0x13, [b] => some (.resultRead b)
  | 0x14, [b] => some (.resultClear b)
  | 0x16, [b] => some (.noticeClear b)
  | 0x17, [] => some .reset
  | _, _ => none

/-- The request that a kind and a payload carry: none when the length does not match what the kind requires (R177
check 3, R187). -/
def readRequest (kind : Byte) (payload : List Byte) : Option Request :=
  match kind.toNat with
  | 0x03 =>
    match payload with
    | [channel, t0, t1, termination, edge] => some (.channelConfig channel (word16 t0 t1) termination edge)
    | _ => none
  | 0x07 => (readLimit payload).map .limitWrite
  | 0x0A =>
    match payload with
    | [index, spectral, bands, spots, f0, f1, f2, f3] => some (.limitProbe index spectral bands spots (word32 f0 f1 f2 f3))
    | _ => none
  | 0x0B =>
    match payload with
    | [b0, b1, b2, b3] => some (.lotOpen (word32 b0 b1 b2 b3))
    | _ => none
  | 0x0C => (readJob payload).map .jobSubmit
  | 0x15 =>
    match payload with
    | [e0, e1, e2, e3, e4] => some (.noticeEnable e0 e1 e2 e3 e4)
    | _ => none
  | n => readShort n payload

/-! ### The check field (R172) -/

/-- One bit enters the CRC register: the register shifts toward its most significant end, and the polynomial's lower
terms x^12 + x^5 + 1 are added when the bit shifted out differs from the incoming bit. -/
def crcBit (register : BitVec 16) (bit : Bool) : BitVec 16 :=
  if register.getLsbD 15 != bit then (register <<< 1) ^^^ 0x1021 else register <<< 1

/-- One byte enters the CRC register, most significant bit first. -/
def crcByte (register : BitVec 16) (byte : Byte) : BitVec 16 :=
  crcBit (crcBit (crcBit (crcBit (crcBit (crcBit (crcBit (crcBit register (byte.getLsbD 7)) (byte.getLsbD 6))
    (byte.getLsbD 5)) (byte.getLsbD 4)) (byte.getLsbD 3)) (byte.getLsbD 2)) (byte.getLsbD 1)) (byte.getLsbD 0)

/-- The CRC of a list of bytes: the register starts at 65,535. -/
def crc (bytes : List Byte) : BitVec 16 :=
  bytes.foldl crcByte 0xFFFF

/-- The bytes a frame's check field covers: length, kind, tag and payload (R172). -/
def coveredBytes (kind tag : Byte) (payload : List Byte) : List Byte :=
  bytes16OfNat payload.length ++ [kind, tag] ++ payload

/-- A frame with its check field computed, as the part sends it (R172, R178). -/
def makeFrame (kind tag : Byte) (payload : List Byte) : Frame :=
  { kind, tag, payload, check := crc (coveredBytes kind tag payload) }

/-- The bytes of a frame on the line (R171). -/
def frameBytes (f : Frame) : List Byte :=
  [0x5A] ++ bytes16OfNat f.payload.length ++ [f.kind, f.tag] ++ f.payload ++ bytes16 f.check

/-- Whether the received check field is the CRC of the bytes received (R172, R177 check 1). -/
def checkHolds (f : Frame) : Bool :=
  decide (f.check = crc (coveredBytes f.kind f.tag f.payload))

/-- The frame of a request as the host sends it (R171, R172). -/
def requestFrame (tag : Byte) (r : Request) : Frame :=
  makeFrame (requestKind r) tag (requestPayload r)

end Sys2Proof.Machine
end

