-- ==== Sys2Proof/Machine/Flags.lean ====
section
/-! DEFINITION. The flags of the part: the five notice flags with their enables (R162 to R165), record flags and figure
flags with their bytes (sections 11.6, 11.9). -/

namespace Sys2Proof.Machine

/-- A flag of a set. -/
def flagOf (set : FlagSet) : NoticeFlag → Bool
  | .resultReady => set.resultReady
  | .calDone => set.calDone
  | .refChange => set.refChange
  | .triggerTaken => set.triggerTaken
  | .queueIdle => set.queueIdle

/-- A set with one flag made pending. -/
def withFlag (set : FlagSet) : NoticeFlag → FlagSet
  | .resultReady => { set with resultReady := true }
  | .calDone => { set with calDone := true }
  | .refChange => { set with refChange := true }
  | .triggerTaken => { set with triggerTaken := true }
  | .queueIdle => { set with queueIdle := true }

/-- The flags in both sets. -/
def flagsBoth (x y : FlagSet) : FlagSet :=
  { resultReady := x.resultReady && y.resultReady
    calDone := x.calDone && y.calDone
    refChange := x.refChange && y.refChange
    triggerTaken := x.triggerTaken && y.triggerTaken
    queueIdle := x.queueIdle && y.queueIdle }

/-- The flags of the first set that are not in the second. -/
def flagsLess (x y : FlagSet) : FlagSet :=
  { resultReady := x.resultReady && !y.resultReady
    calDone := x.calDone && !y.calDone
    refChange := x.refChange && !y.refChange
    triggerTaken := x.triggerTaken && !y.triggerTaken
    queueIdle := x.queueIdle && !y.queueIdle }

/-- Whether a set holds any flag. -/
def anyFlag (x : FlagSet) : Bool :=
  x.resultReady || x.calDone || x.refChange || x.triggerTaken || x.queueIdle

/-- A flag set as a byte (section 11.9). -/
def flagSetByte (x : FlagSet) : Byte :=
  byteOfBits x.resultReady x.calDone x.refChange x.triggerTaken x.queueIdle false false false

/-- The flag set in a byte; a byte with bit 5, 6 or 7 set holds none (R188). -/
def flagSetOf (b : Byte) : Option FlagSet :=
  if b.toNat < 32 then
    some { resultReady := b.getLsbD 0, calDone := b.getLsbD 1, refChange := b.getLsbD 2, triggerTaken := b.getLsbD 3,
           queueIdle := b.getLsbD 4 }
  else none

/-- A cause of a notice flag arises: a clear flag becomes pending, and notice due is set when the flag is enabled; a
pending flag absorbs the cause (R162). -/
def raiseIn (n : Notices) (flag : NoticeFlag) : Notices :=
  if flagOf n.flags flag then n
  else { n with flags := withFlag n.flags flag, due := n.due || flagOf n.enables flag }

/-- A cause of a notice flag arises in the part (R162). -/
def raise (flag : NoticeFlag) (s : State) : State :=
  { s with notices := raiseIn s.notices flag }

/-- A figure flags byte (section 11.6). -/
def figureFlagsByte (f : FigureFlags) : Byte :=
  byteOfBits f.atFloor f.saturated f.bandClipped f.bandEmpty f.offsetClipped false false false

/-- A record flags byte (section 11.6). -/
def recordFlagsByte (f : RecordFlags) : Byte :=
  byteOfBits f.prescaleAdjusted f.segmentReduced f.spectralSkipped f.calStale f.realigned f.overwritten false false

/-- The index of a figure in the order of R150. -/
def figureIndex : FigureName → Fin 14
  | .freqOffset => 0
  | .tieRms => 1
  | .tiePp => 2
  | .perRms => 3
  | .c2cRms => 4
  | .c2cPeak => 5
  | .band0 => 6
  | .band1 => 7
  | .band2 => 8
  | .band3 => 9
  | .spot0 => 10
  | .spot1 => 11
  | .spot2 => 12
  | .spot3 => 13

/-- The fourteen figures in the order of R150. -/
def figureOrder : List FigureName :=
  [.freqOffset, .tieRms, .tiePp, .perRms, .c2cRms, .c2cPeak, .band0, .band1, .band2, .band3, .spot0, .spot1, .spot2, .spot3]

/-- A figure set as a 16-bit word, one bit per figure in figure order (section 11.6). -/
def figureMask (holds : FigureName → Bool) : BitVec 16 :=
  word16
    (byteOfBits (holds .freqOffset) (holds .tieRms) (holds .tiePp) (holds .perRms) (holds .c2cRms) (holds .c2cPeak)
      (holds .band0) (holds .band1))
    (byteOfBits (holds .band2) (holds .band3) (holds .spot0) (holds .spot1) (holds .spot2) (holds .spot3) false false)

end Sys2Proof.Machine
end

