-- ==== Sys2Proof/Machine/Ops.lean ====
section
/-! DEFINITION. The named operations over the part's state: one accessor and one update for each block, coarse time,
banks, calibration snapshots, live jobs and the idle condition. -/

namespace Sys2Proof.Machine

/-! ### Groups (R12) -/

/-- The group of a channel: A holds 0 and 1, B holds 2 and 3. -/
def groupOfChannel (c : ChannelId) : Group :=
  if c.val < 2 then .a else .b

/-- The group of a site: A holds 0 to 7, B holds 8 to 15. -/
def groupOfSite (s : Site) : Group :=
  if s.val < 8 then .a else .b

/-- The lower-numbered channel of a group. -/
def lowChannel : Group → ChannelId
  | .a => 0
  | .b => 2

/-- The higher-numbered channel of a group. -/
def highChannel : Group → ChannelId
  | .a => 1
  | .b => 3

/-- A group's thing. -/
def PerGroup.of {α : Type} (p : PerGroup α) : Group → α
  | .a => p.a
  | .b => p.b

/-- One group's thing replaced. -/
def PerGroup.put {α : Type} (p : PerGroup α) (g : Group) (x : α) : PerGroup α :=
  match g with
  | .a => { p with a := x }
  | .b => { p with b := x }

/-! ### Accessors and updates -/

def channelOfState (s : State) (c : ChannelId) : Channel :=
  s.channels[c]

def setChannel (c : ChannelId) (x : Channel) (s : State) : State :=
  { s with channels := s.channels.set c x }

def recordOf (s : State) (c : ChannelId) : CalRecord :=
  s.records[c]

def setRecord (c : ChannelId) (x : CalRecord) (s : State) : State :=
  { s with records := s.records.set c x }

def pairOf (s : State) (g : Group) : PairUnit :=
  s.pairs.of g

def setPair (g : Group) (x : PairUnit) (s : State) : State :=
  { s with pairs := s.pairs.put g x }

def sectionOf (s : State) (g : Group) : CalSection :=
  s.sections.of g

def setSection (g : Group) (x : CalSection) (s : State) : State :=
  { s with sections := s.sections.put g x }

def queueOf (s : State) (g : Group) : List Entry :=
  s.queues.of g

def setQueue (g : Group) (q : List Entry) (s : State) : State :=
  { s with queues := s.queues.put g q }

/-- The live job of a site (R58). -/
def jobAt (s : State) (site : Site) : Option Job :=
  s.jobs[site]

def setJob (site : Site) (j : Option Job) (s : State) : State :=
  { s with jobs := s.jobs.set site j }

def setLink (l : Link) (s : State) : State :=
  { s with link := l }

def setEngine (e : Engine) (s : State) : State :=
  { s with engine := e }

/-- The live jobs, by site. -/
def liveJobs (s : State) : List Job :=
  s.jobs.toList.filterMap id

/-- The live job with an id (R62: the live ids are distinct). -/
def jobWithId (s : State) (id : Nat) : Option Job :=
  (liveJobs s).find? fun j => j.id == id

/-- A live job's record changed in place. -/
def updateJob (id : Nat) (change : Job → Job) (s : State) : State :=
  match jobWithId s id with
  | some j => setJob j.site (some (change j)) s
  | none => s

/-- A live job enters a state (R63). -/
def setJobState (id : Nat) (state : JobState) (s : State) : State :=
  updateJob id (fun j => { j with state }) s

/-! ### Coarse time (R7) -/

/-- The counter runs only in LOCKED (R7). -/
def counterRuns (s : State) : Bool :=
  decide (s.timebase.refState = .locked)

/-- So many coarse ticks pass; a held counter delivers none (R7). -/
def passTicks (ticks : Nat) (s : State) : State :=
  if counterRuns s then
    { s with timebase := { s.timebase with coarse := s.timebase.coarse + BitVec.ofNat 36 ticks } }
  else s

/-- The ticks from the present count to the tick given, forward (R7). -/
def ticksUntil (s : State) (t : Tick) : Nat :=
  (t - s.timebase.coarse).toNat

/-- The tick so many ticks after the present one. -/
def tickAfter (s : State) (ticks : Nat) : Tick :=
  s.timebase.coarse + BitVec.ofNat 36 ticks

/-! ### Banks (R19) -/

def bankOf (ch : Channel) (b : Fin 2) : Bank :=
  if b = 0 then ch.bank0 else ch.bank1

def withBank (ch : Channel) (b : Fin 2) (x : Bank) : Channel :=
  if b = 0 then { ch with bank0 := x } else { ch with bank1 := x }

/-- The number of FREE banks of a channel (R70). -/
def freeBanks (ch : Channel) : Nat :=
  (if ch.bank0.state = .free then 1 else 0) + (if ch.bank1.state = .free then 1 else 0)

/-- The bank a dispatch takes: bank 0 if FREE, and bank 1 otherwise (R20). -/
def bankTaken (ch : Channel) : Fin 2 :=
  if ch.bank0.state = .free then 0 else 1

/-- A bank returns to FREE, and its record is discarded (R19, R34). -/
def freeBank (c : ChannelId) (b : Fin 2) (s : State) : State :=
  setChannel c (withBank (channelOfState s c) b .empty) s

/-- Each bank an analysis item holds returns to FREE (R34). -/
def freeItemBanks (item : Item) (s : State) : State :=
  let s := freeBank item.first.channel item.first.bank s
  match item.second with
  | some leg => freeBank leg.channel leg.bank s
  | none => s

/-! ### Calibration records (R37, R50) -/

/-- VALID, STALE or not (R69). -/
def isValid : CalRecord → Bool
  | .valid _ _ _ _ _ => true
  | _ => false

/-- STALE: VALID, and more than 20 quarter-degrees from the temperature at calibration (R50). -/
def isStale (reading : Int) : CalRecord → Bool
  | .valid temperature _ _ _ _ => decide (20 < (reading - temperature).natAbs)
  | _ => false

/-- The fine table of a record, empty unless VALID (R37, log 24). -/
def fineTable : CalRecord → List Nat
  | .valid _ _ _ table _ => table
  | _ => []

/-- The σ_f of a record, in su. -/
def recordFloor : CalRecord → Nat
  | .valid _ _ _ _ floor => floor
  | _ => 0

/-- The calibration snapshot a dispatch takes (R20). -/
def snapshotOf (s : State) (c : ChannelId) : Snapshot :=
  { floor := recordFloor (recordOf s c), stale := isStale s.timebase.temperature (recordOf s c) }

/-- The timestamp of an edge with a raw fine code in the present coarse tick, formed with a fine table (R8). -/
def timestampOf (s : State) (table : List Nat) (code : Byte) : Timestamp :=
  BitVec.ofNat 48 (s.timebase.coarse.toNat * 4096 + table.getD code.toNat 0)

/-- An interval passes the period check (R25). -/
def intervalPasses (fNom prescale interval : Nat) : Bool :=
  decide (1228800000000 * prescale ≤ interval * fNom) && decide (interval * fNom ≤ 2048000000000 * prescale)

/-- The edge timeout T of R26, in coarse ticks. -/
def edgeTimeoutTicks (fNom prescale : Nat) : Nat :=
  max 4 (ceilDiv (1600000000 * prescale) fNom)

/-! ### Events due on a tick (R21, R26, R41, R44, R45) -/

/-- Whether a settling channel has reported its settling end to its pair unit (R23). -/
def settlingReported (s : State) (c : ChannelId) : Bool :=
  match pairOf s (groupOfChannel c) with
  | .settling _ low high => if c = lowChannel (groupOfChannel c) then low else high
  | _ => false

/-- The tick on which a channel's next timed event falls, if it awaits one: its settling end, its edge deadline, or those
of the calibration pass it is lent to. -/
def dueTick (s : State) (c : ChannelId) : Option Tick :=
  match (channelOfState s c).state with
  | .idle => none
  | .settling =>
    if settlingReported s c then none else (channelOfState s c).context.map (·.settlingEnd)
  | .capturing => (channelOfState s c).context.bind (·.deadline)
  | .calibrating =>
    match sectionOf s (groupOfChannel c) with
    | .busy ctx => if ctx.channel ≠ c then none else if ctx.settled then ctx.deadline else some ctx.settlingEnd
    | .free => none

/-- Whether so many ticks can pass without passing a tick on which an event of one channel is due. -/
def channelLets (s : State) (ticks : Nat) (c : ChannelId) : Bool :=
  match dueTick s c with
  | some t => decide (ticks ≤ ticksUntil s t)
  | none => true

/-- Whether so many ticks can pass: a held counter delivers no ticks, and no event that is due is passed over (R7, log 4). -/
def ticksCanPass (s : State) (ticks : Nat) : Bool :=
  !counterRuns s || (channelLets s ticks 0 && channelLets s ticks 1 && channelLets s ticks 2 && channelLets s ticks 3)

/-! ### The idle condition (R164) -/

/-- All four parts of the idle condition. -/
def idleCondition (s : State) : Bool :=
  s.queues.a.isEmpty && s.queues.b.isEmpty && s.channels.all (fun ch => decide (ch.state = .idle))
    && s.analysisQueue.isEmpty && decide (s.engine = .idle)

/-- The notice unit follows the idle condition, and raises QUEUE_IDLE when it goes from not holding to holding (R164). -/
def followIdle (s : State) : State :=
  let holds := idleCondition s
  let s' := if holds && !s.notices.idleHolds then raise .queueIdle s else s
  { s' with notices := { s'.notices with idleHolds := holds } }

end Sys2Proof.Machine
end

