-- ==== Sys2Proof/Machine/Dispatcher.lean ====
section
/-! DEFINITION. The dispatchers: which channel qualifies, which heads can run, the dispatch of a job and of a calibration
entry, and the examination of a queue's head (R20, R40, R68 to R74). -/

namespace Sys2Proof.Machine

/-- A channel qualifies for a job (R69). -/
def qualifies (s : State) (c : ChannelId) : Bool :=
  decide ((channelOfState s c).state = .idle) && isValid (recordOf s c) && decide (0 < freeBanks (channelOfState s c))
    && counterRuns s

/-- The channel a SINGLE job of choice ANY goes to (R70). -/
def anyChannel (s : State) (g : Group) : Option ChannelId :=
  if qualifies s (lowChannel g) then
    if qualifies s (highChannel g)
        && decide (freeBanks (channelOfState s (lowChannel g)) < freeBanks (channelOfState s (highChannel g))) then
      some (highChannel g)
    else some (lowChannel g)
  else if qualifies s (highChannel g) then some (highChannel g)
  else none

/-- The channels a job at the head of its queue is dispatched to, when it can run (R68 to R71). A HELD job cannot run. -/
def channelsFor (s : State) (g : Group) (j : Job) : Option (List ChannelId) :=
  if j.state ≠ .queued then none
  else
    match j.mode with
    | .paired =>
      if qualifies s (lowChannel g) && qualifies s (highChannel g) then some [lowChannel g, highChannel g] else none
    | .single =>
      match j.choice with
      | some c => if qualifies s c then some [c] else none
      | none => (anyChannel s g).map fun c => [c]

/-- The capture context a dispatch builds (section 2.4, R20, R21). -/
def contextFor (s : State) (j : Job) (c : ChannelId) : CaptureContext :=
  { job := j.id, site := j.site, mode := j.mode, prescale := j.prescale, fNom := j.fNom
    recordLength := match j.mode with
      | .single => j.length
      | .paired => j.length + 1
    bank := bankTaken (channelOfState s c)
    settlingEnd := tickAfter s (8000 + 400 * j.settle)
    nextIndex := -2, previous := none, timeout := edgeTimeoutTicks j.fNom j.prescale, deadline := none
    snapshot := snapshotOf s c }

/-- A channel takes its dispatch (R20). The prescaler's count is left until the gate sets it to 0: the model's choice (log
27). -/
def takeDispatch (j : Job) (s : State) (c : ChannelId) : State :=
  let ch := channelOfState s c
  let ch' := withBank ch (bankTaken ch) { state := .filling, record := [] }
  setChannel c
    { ch' with selector := .site j.site, ratio := j.prescale, state := .settling, context := some (contextFor s j c) } s

/-- A job is dispatched: its entry leaves the queue, its record takes the channels, it becomes SETTLING, and each channel
takes its dispatch; for a PAIRED job the pair unit takes the job (R23, R73). -/
def dispatchJob (g : Group) (j : Job) (channels : List ChannelId) (rest : List Entry) (s : State) : State :=
  let s := setQueue g rest s
  let s := setJob j.site (some { j with channels, state := .settling }) s
  let s := channels.foldl (takeDispatch j) s
  match j.mode with
  | .paired => setPair g (.settling j.id false false) s
  | .single => s

/-- The working context of a calibration that starts now (R40). -/
def newSectionContext (s : State) (c : ChannelId) : SectionContext :=
  { channel := c, pass := .codeDensity, histogram := List.replicate 256 0, hits := 0, spanLow := 0, spanHigh := 0
    table := [], timestamps := [], settlingEnd := tickAfter s 8000, settled := false, nextIndex := -2
    previous := none, deadline := none }

/-- A calibration entry is dispatched: the entry leaves the queue, the section becomes BUSY, the record RUNNING, and the
channel moves its selector to DITHER and enters CALIBRATING (R33, R40). -/
def dispatchCalibration (g : Group) (c : ChannelId) (rest : List Entry) (s : State) : State :=
  let s := setQueue g rest s
  let s := setSection g (.busy (newSectionContext s c)) s
  let s := setRecord c .running s
  setChannel c { channelOfState s c with selector := .dither, state := .calibrating } s

/-- A calibration entry at the head can run (R38, R72). -/
def calibrationCanRun (s : State) (g : Group) (c : ChannelId) : Bool :=
  decide ((channelOfState s c).state = .idle) && counterRuns s && decide (sectionOf s g = .free)

/-- The head of a group's queue is examined once: the part after its dispatch, or none when it waits (R68). -/
def examineHead (g : Group) (s : State) : Option State :=
  match queueOf s g with
  | [] => none
  | .calibration c :: rest => if calibrationCanRun s g c then some (dispatchCalibration g c rest s) else none
  | .job id site :: rest =>
    match jobAt s site with
    | none => none
    | some j =>
      if j.id = id then (channelsFor s g j).map fun channels => dispatchJob g j channels rest s else none

/-- Heads are dispatched in turn while they can run, at most so many. -/
def examineTimes (g : Group) : Nat → State → State
  | 0, s => s
  | n + 1, s =>
    match examineHead g s with
    | some s' => examineTimes g n s'
    | none => s

/-- A group's dispatcher examines its head, and goes on until the queue is empty or its head cannot run (R68). -/
def examine (g : Group) (s : State) : State :=
  examineTimes g (queueOf s g).length s

/-- Both dispatchers examine their heads (R68: the lock event and the trigger release). -/
def examineBoth (s : State) : State :=
  examine .b (examine .a s)

end Sys2Proof.Machine
end

