-- ==== Sys2Proof/Machine/Verdict.lean ====
section
/-! DEFINITION. The verdict rule (R147 to R151): from a result's status, CAL_STALE flag and figures, and the limit entry
the job named, to the verdict, the failing-figure set and the bin. -/

namespace Sys2Proof.Machine

/-- The figure of a result under a name. -/
def figureOf (figures : Figures) (name : FigureName) : Figure :=
  figures[figureIndex name]

/-- The maximum an entry holds for a figure, TIE_RMS … SPOT3 (R135). -/
def maximumOf (e : LimitSet) : FigureName → Option Int
  | .freqOffset => none
  | .tieRms => e.maxima[0]
  | .tiePp => e.maxima[1]
  | .perRms => e.maxima[2]
  | .c2cRms => e.maxima[3]
  | .c2cPeak => e.maxima[4]
  | .band0 => e.maxima[5]
  | .band1 => e.maxima[6]
  | .band2 => e.maxima[7]
  | .band3 => e.maxima[8]
  | .spot0 => e.maxima[9]
  | .spot1 => e.maxima[10]
  | .spot2 => e.maxima[11]
  | .spot3 => e.maxima[12]

/-- A checked figure of an entry: one the entry holds a limit for (R135). -/
def isChecked (e : LimitSet) (name : FigureName) : Bool :=
  match name with
  | .freqOffset => e.offsetMin.isSome || e.offsetMax.isSome
  | _ => (maximumOf e name).isSome

/-- A value above a limit that is present (R148). -/
def aboveLimit (limit : Option Int) (value : Int) : Bool :=
  match limit with
  | some l => decide (l < value)
  | none => false

/-- A value below a limit that is present (R148). -/
def belowLimit (limit : Option Int) (value : Int) : Bool :=
  match limit with
  | some l => decide (value < l)
  | none => false

/-- Whether a figure, if present, fails the entry's limit for it (R148); an absent figure does not fail (R149). -/
def figureFails (e : LimitSet) (figures : Figures) (name : FigureName) : Bool :=
  match (figureOf figures name).value with
  | none => false
  | some value =>
    match name with
    | .freqOffset => belowLimit e.offsetMin value || aboveLimit e.offsetMax value
    | _ => aboveLimit (maximumOf e name) value

/-- Whether a figure is checked and absent (R149). -/
def figureMissing (e : LimitSet) (figures : Figures) (name : FigureName) : Bool :=
  isChecked e name && (figureOf figures name).value.isNone

/-- What the verdict rule decides. -/
structure Judgement where
  verdict : Verdict
  failing : List FigureName
  bin : Option Nat
deriving DecidableEq, Repr

/-- RETEST with the entry's retest bin (R147). -/
def retestJudgement (e : LimitSet) : Judgement :=
  { verdict := .retest, failing := [], bin := some e.retestBin }

/-- The comparison of the figures (R148 to R150). -/
def compareFigures (e : LimitSet) (figures : Figures) : Judgement :=
  match figureOrder.filter (figureFails e figures) with
  | first :: rest => { verdict := .fail, failing := first :: rest, bin := some e.failBins[figureIndex first] }
  | [] =>
    if figureOrder.any (figureMissing e figures) then { verdict := .incomplete, failing := [], bin := some e.retestBin }
    else { verdict := .pass, failing := [], bin := some e.passBin }

/-- Whether the figures of a status are compared at all (R147, test 2). -/
def figuresCompared : Ending → Bool
  | .complete => true
  | .offNominal => true
  | _ => false

/-- The verdict rule (R147). The entry is absent when the job has no limit index. -/
def judge (entry : Option LimitSet) (status : Ending) (calStale : Bool) (figures : Figures) : Judgement :=
  match entry with
  | none => { verdict := .nothing, failing := [], bin := none }
  | some e =>
    if !figuresCompared status then retestJudgement e
    else if calStale && decide (e.stalePolicy = .retest) then retestJudgement e
    else compareFigures e figures

end Sys2Proof.Machine
end

