-- ==== Sys2Proof/Machine/Results.lean ====
section
/-! DEFINITION. The result store: posting (R157), the result record's bytes (section 11.6), and the requests RESULT_NEXT,
RESULT_READ and RESULT_CLEAR (R158 to R160). A request's meaning answers its reply payload and the part after it. -/

namespace Sys2Proof.Machine

/-- The record a slot holds. -/
def slotRecord : Slot → Option ResultRecord
  | .empty => none
  | .new r => some r
  | .read r => some r

/-- Whether a slot is NEW. -/
def isNew : Slot → Bool
  | .new _ => true
  | _ => false

def slotAt (s : State) (site : Site) : Slot :=
  s.results.slots[site]

/-- A record is posted: its site's slot becomes NEW, OVERWRITTEN is set when the slot was NEW, the site goes to the tail
of the completion list, and RESULT_READY is raised when the list was empty (R157). -/
def post (r : ResultRecord) (s : State) : State :=
  let stored : ResultRecord :=
    if isNew (slotAt s r.site) then { r with flags := { r.flags with overwritten := true } } else r
  let posted : State :=
    { s with results :=
        { slots := s.results.slots.set r.site (.new stored)
          completion := s.results.completion.filter (· != r.site) ++ [r.site] } }
  if s.results.completion.isEmpty then raise .resultReady posted else posted

/-- The status detail (section 11.6). -/
def detailBytes : Ending → List Byte
  | .edgeFault index channel => bytes32OfInt index ++ [channelCode channel]
  | .noSignal channel => [channelCode channel]
  | _ => []

/-- The bytes of a figure when present: four for FREQ_OFFSET, time and band figures, two for spots (section 11.6). -/
def figureBytes (figures : Figures) (name : FigureName) : List Byte :=
  match (figureOf figures name).value with
  | none => []
  | some value =>
    match name with
    | .spot0 => bytes16OfInt value
    | .spot1 => bytes16OfInt value
    | .spot2 => bytes16OfInt value
    | .spot3 => bytes16OfInt value
    | _ => bytes32OfInt value

/-- The result record (section 11.6). -/
def recordBytes (r : ResultRecord) : List Byte :=
  bytes16OfNat r.job ++ [siteCode r.site] ++ bytes32 r.hostTag ++ [endingCode r.status, modeCode r.mode]
  ++ bytes16OfNat r.prescale ++ bytes32OfNat r.length
  ++ [recordFlagsByte r.flags, verdictCode r.verdict,
      byteOfBits (!(detailBytes r.status).isEmpty) (!r.channels.isEmpty) r.segmentExponent.isSome r.bin.isSome
        false false false false]
  ++ bytes16 (figureMask fun name => (figureOf r.figures name).value.isSome)
  ++ bytes16 (figureMask fun name => r.failing.contains name)
  ++ figureOrder.map (fun name => figureFlagsByte (figureOf r.figures name).flags)
  ++ detailBytes r.status ++ r.channels.map channelCode
  ++ (match r.segmentExponent with
      | some e => [byteOfNat e]
      | none => [])
  ++ (match r.bin with
      | some bin => [byteOfNat bin]
      | none => [])
  ++ figureOrder.flatMap (figureBytes r.figures)

/-- The OK reply that returns a record: the number of sites on the list, then the record (R158, R159, section 11.6). -/
def recordReply (r : ResultRecord) (s : State) : List Byte :=
  okReply (byteOfNat s.results.completion.length :: recordBytes r)

/-- A slot becomes READ with the record given, and its site leaves the completion list (R156). -/
def markRead (site : Site) (r : ResultRecord) (s : State) : State :=
  { s with results :=
      { slots := s.results.slots.set site (.read r)
        completion := s.results.completion.filter (· != site) } }

/-- RESULT_NEXT (R158). -/
def serveResultNext (s : State) : List Byte × State :=
  match s.results.completion with
  | [] => (refusal .noResult, s)
  | site :: _ =>
    match slotRecord (slotAt s site) with
    | none => (refusal .noResult, s)
    | some r =>
      let s' := markRead site r s
      (recordReply r s', s')

/-- RESULT_READ (R159). -/
def serveResultRead (siteByte : Byte) (s : State) : List Byte × State :=
  match siteOf siteByte with
  | none => (badField 1, s)
  | some site =>
    match slotAt s site with
    | .empty => (refusal .noResult, s)
    | .new r =>
      let s' := markRead site r s
      (recordReply r s', s')
    | .read r => (recordReply r s, s)

/-- The sites a RESULT_CLEAR names: one, or all for FFh (R160, section 11.3). -/
def clearedSites (siteByte : Byte) : Option (List Site) :=
  if siteByte = 0xFF then some (List.finRange 16)
  else (siteOf siteByte).map fun site => [site]

/-- A slot becomes EMPTY, and its site leaves the completion list (R160). -/
def clearSlot (s : State) (site : Site) : State :=
  { s with results :=
      { slots := s.results.slots.set site .empty
        completion := s.results.completion.filter (· != site) } }

/-- RESULT_CLEAR (R160). -/
def serveResultClear (siteByte : Byte) (s : State) : List Byte × State :=
  match clearedSites siteByte with
  | none => (badField 1, s)
  | some sites =>
    (okReply [byteOfNat (sites.countP fun site => isNew (slotAt s site))], sites.foldl clearSlot s)

end Sys2Proof.Machine
end

