-- ==== Sys2Proof/Machine/Endings.lean ====
section
/-! DEFINITION. How a job and its capture end: the stop of a capture (R29 to R32), the result record the job block forms
(R65), and the end of a live job at its posting (R65, R93). -/

namespace Sys2Proof.Machine

/-- A channel gives up its capture: the FILLING bank of its context returns to FREE, the context is discarded, and the
channel returns to IDLE with its selector where it stands (R29, R31, R32). -/
def releaseChannel (c : ChannelId) (s : State) : State :=
  let ch := channelOfState s c
  match ch.context with
  | none => s
  | some ctx => setChannel c { withBank ch ctx.bank .empty with state := .idle, context := none } s

/-- A capture stops: a SINGLE job's channel, or both channels of a PAIRED job with their pair unit (R29 to R32). -/
def stopCapture (c : ChannelId) (mode : Mode) (s : State) : State :=
  match mode with
  | .single => releaseChannel c s
  | .paired =>
    let g := groupOfChannel c
    setPair g .idle (releaseChannel (highChannel g) (releaseChannel (lowChannel g) s))

/-- The limit entry a job named, as the table holds it (R151). -/
def entryOf (s : State) (j : Job) : Option LimitSet :=
  match j.limit with
  | none => none
  | some index => s.limits.entries[index]

/-- The in-use count of a job's entry falls by one, when it names one (R65, R93, R143). -/
def lowerInUse (j : Job) (s : State) : State :=
  match j.limit with
  | none => s
  | some index =>
    { s with limits := { s.limits with inUse := s.limits.inUse.set index (s.limits.inUse[index] - 1) } }

/-- A result record of a job with the verdict rule applied to it (R65, R93, R147, R154). -/
def formRecord (s : State) (j : Job) (w : Working) : ResultRecord :=
  let judged := judge (entryOf s j) w.status w.flags.calStale w.figures
  { job := j.id, site := j.site, hostTag := j.hostTag, status := w.status, mode := j.mode, channels := j.channels
    prescale := j.prescale, length := j.length, segmentExponent := w.segmentExponent, flags := w.flags
    figures := w.figures, verdict := judged.verdict, failing := judged.failing, bin := judged.bin }

/-- No figure present and no flag set. -/
def noFigures : Figures :=
  Vector.replicate 14 {}

/-- The working result of a job that ends without analysis: no figures, no L used, and PRESCALE_ADJUSTED where it applies
(R65, R154). -/
def figurelessWorking (j : Job) (status : Ending) : Working :=
  { status, flags := { prescaleAdjusted := j.adjusted }, segmentExponent := none, figures := noFigures }

/-- A live job ends with a result: the record is posted, the in-use count falls, and the job is DONE (R65, R93). -/
def finishJob (j : Job) (w : Working) (s : State) : State :=
  setJob j.site none (lowerInUse j (post (formRecord s j w) s))

/-- The job block ends a job itself, with a status and no figures (R64, R65). -/
def endJob (id : Nat) (status : Ending) (s : State) : State :=
  match jobWithId s id with
  | none => s
  | some j => finishJob j (figurelessWorking j status) s

end Sys2Proof.Machine
end

