-- ==== Sys2Proof/Machine/Items.lean ====
section
/-! DEFINITION. Analysis items: how one joins the queue, leaves it, and is taken by the engine (R88 to R91, R94, R95). -/

namespace Sys2Proof.Machine

/-- The working result as the engine empties it: nothing formed yet (R91, log 25). -/
def emptyWorking : Working :=
  { status := .complete, flags := {}, segmentExponent := none, figures := noFigures }

/-- The idle engine takes the head item: it leaves the queue, the engine enters TIME_PASS and the job becomes ANALYSING
(R91). -/
def takeItem (s : State) : State :=
  match s.engine, s.analysisQueue with
  | .idle, item :: rest =>
    setJobState item.job .analysing { s with analysisQueue := rest, engine := .timePass item emptyWorking }
  | _, _ => s

/-- An item joins the tail of the analysis queue; its job becomes ANALYSIS_WAIT, and an idle engine takes the head (R89). -/
def joinAnalysis (item : Item) (s : State) : State :=
  takeItem (setJobState item.job .analysisWait { s with analysisQueue := s.analysisQueue ++ [item] })

/-- The item the engine holds. -/
def engineItem : Engine → Option Item
  | .idle => none
  | .timePass item _ => some item
  | .spectralPass item _ _ => some item
  | .verdict item _ => some item

/-- A job's item leaves the analysis queue, and its banks return to FREE (R90, R94). -/
def dropItem (id : Nat) (s : State) : State :=
  match s.analysisQueue.find? fun item => item.job == id with
  | none => s
  | some item => freeItemBanks item { s with analysisQueue := s.analysisQueue.filter fun other => other.job != id }

/-- The engine abandons its item: the working result is discarded, the banks return to FREE, and the engine is IDLE
(R95). -/
def abandonItem (s : State) : State :=
  match engineItem s.engine with
  | none => s
  | some item => freeItemBanks item (setEngine .idle s)

end Sys2Proof.Machine
end

