-- ==== Sys2Proof/Machine/TimeDomain.lean ====
section
/-! DEFINITION. The arithmetic of a record: fitted line, frequency offset, residuals and TIE (R98 to R101, R46), paired
alignment (R97), the time figures (R102 to R107), floor correction (R108) and conversion to femtoseconds (R109). -/

namespace Sys2Proof.Machine

/-! ### The fitted line and the TIE sequence -/

/-- The span of a record: the forward difference of its last timestamp after its first, in tu (R98). -/
def spanOf (t : List Timestamp) : Nat :=
  forwardDifference (t.getLastD 0) (t.headD 0)

/-- The mean interval b_su, ties up (R98). -/
def meanInterval (t : List Timestamp) : Int :=
  roundTiesUp (spanOf t * 256) (t.length - 1)

/-- The line residuals x_k, in su (R101 step 1). -/
def residuals (t : List Timestamp) : List Int :=
  t.zipIdx.map fun p => (forwardDifference p.1 (t.headD 0) * 256 : Nat) - (p.2 : Int) * meanInterval t

/-- The mean m of the residuals, ties away from zero (R101 step 2). -/
def residualMean (t : List Timestamp) : Int :=
  roundTiesAway (sumInt (residuals t)) t.length

/-- The TIE sequence, in su (R101 step 3). -/
def tieOf (t : List Timestamp) : List Int :=
  (residuals t).map fun x => x - residualMean t

/-- σ_f of a floor record: the root mean square of its TIE, in su, ties up (R46 step 5). -/
def floorSigma (t : List Timestamp) : Nat :=
  rootRounded (sumSquares (tieOf t)).toNat t.length

/-- FREQ_OFFSET in ppb from a mean interval, ties away from zero (R99). -/
def frequencyOffset (mean : Int) (fNom prescale : Nat) : Int :=
  roundTiesAway (1000000000 * (419430400000000 * (prescale : Int) - mean * fNom)) (mean * fNom).toNat

/-! ### Paired alignment -/

/-- The records used after the alignment test and whether it realigned them, or none on PAIR_SLIP (R97). -/
def alignPair (fNom prescale length : Nat) (t1 t2 : List Timestamp) :
    Option (List Timestamp × List Timestamp × Bool) :=
  let d := signedDifference (t1.headD 0) (t2.headD 0)
  let window : Int := 1638400000000 * prescale
  if ((2 * d * fNom).natAbs : Int) < window then some (t1.take length, t2.take length, false)
  else if ((2 * d * fNom + 2 * window).natAbs : Int) < window then some (t1.drop 1, t2.take length, true)
  else if ((2 * d * fNom - 2 * window).natAbs : Int) < window then some (t1.take length, t2.drop 1, true)
  else none

/-! ### Conversion to femtoseconds (R109) -/

/-- The greatest time or band figure, in fs. -/
def figureLimit : Nat :=
  4294967295

/-- A figure of a whole number of femtoseconds, SATURATED when it exceeds the greatest (R109). -/
def saturated (fs : Nat) : Figure :=
  if figureLimit < fs then { value := some (figureLimit : Int), flags := { saturated := true } }
  else { value := some (fs : Int) }

/-- A figure of a whole number of su (R104, R107, R109). -/
def linearFigure (su : Nat) : Figure :=
  saturated (roundTiesUp (su * 78125) 32768).toNat

/-- The figure 0 with AT_FLOOR (R102). -/
def floorFigure : Figure :=
  { value := some 0, flags := { atFloor := true } }

/-- A root-mean-square figure from its mean square `num / den` in su²: 0 with AT_FLOOR when that is zero or negative, else
its square root in femtoseconds (R102, R109). -/
def rootFigure (num : Int) (den : Nat) : Figure :=
  if num ≤ 0 then floorFigure
  else saturated (rootRounded (num.toNat * 78125 ^ 2) (den * 32768 ^ 2))

/-! ### The time figures of a record -/

/-- The periods p_k, in su (R105). -/
def periods : List Timestamp → List Int
  | t0 :: t1 :: rest => ((forwardDifference t1 t0 * 256 : Nat) : Int) :: periods (t1 :: rest)
  | _ => []

/-- The differences of consecutive members. -/
def steps : List Int → List Int
  | x :: y :: rest => (y - x) :: steps (y :: rest)
  | _ => []

/-- The cycle-to-cycle differences c_k, in su (R106). -/
def cycleDifferences (t : List Timestamp) : List Int :=
  steps (periods t)

/-- The products of two sequences, member by member (R103). -/
def crossProducts (x y : List Int) : List Int :=
  List.zipWith (· * ·) x y

/-- The greatest magnitude of a list, 0 if empty (R107). -/
def greatestMagnitude (l : List Int) : Nat :=
  l.foldl (fun m x => max m x.natAbs) 0

/-- The difference between the greatest and the least member, 0 if empty (R104). -/
def peakToPeak : List Int → Nat
  | [] => 0
  | x :: rest => (rest.foldl max x - rest.foldl min x).toNat

/-- TIE_RMS of a SINGLE record, `correction` being σ_f² or 0 (R102, R108). -/
def tieRms (t : List Timestamp) (correction : Nat) : Figure :=
  rootFigure (sumSquares (tieOf t) - t.length * correction) t.length

/-- TIE_RMS of a PAIRED item, from the cross products of the two TIE sequences (R103). -/
def tieRmsPaired (t1 t2 : List Timestamp) : Figure :=
  rootFigure (sumInt (crossProducts (tieOf t1) (tieOf t2))) t1.length

/-- TIE_PP (R104). -/
def tiePp (t : List Timestamp) : Figure :=
  linearFigure (peakToPeak (tieOf t))

/-- PER_RMS: the variance of the M periods is Σ (M p_k − Σp)² / M³; the floor adds 2σ_f² (R105, R108). -/
def perRms (t : List Timestamp) (correction : Nat) : Figure :=
  let p := periods t
  let m := p.length
  let total := sumInt p
  rootFigure (sumSquares (p.map fun x => m * x - total) - m ^ 3 * (2 * correction)) (m ^ 3)

/-- C2C_RMS, with no mean removed; the floor adds 6σ_f² (R106, R108). -/
def c2cRms (t : List Timestamp) (correction : Nat) : Figure :=
  let c := cycleDifferences t
  rootFigure (sumSquares c - c.length * (6 * correction)) c.length

/-- C2C_PEAK (R107). -/
def c2cPeak (t : List Timestamp) : Figure :=
  linearFigure (greatestMagnitude (cycleDifferences t))

/-- FREQ_OFFSET as a figure, with no flag (R99). -/
def offsetFigure (offset : Int) : Figure :=
  { value := some offset }

/-- A figure of a result replaced. -/
def withFigure (figures : Figures) (name : FigureName) (f : Figure) : Figures :=
  figures.set (figureIndex name) f

end Sys2Proof.Machine
end

