-- ==== Sys2Proof/Machine/Spectral.lean ====
section
/-! DEFINITION. The spectral pass: segment length and count (R116, R118), exact transforms and powers (R119 to R122), band
figures (R124 to R126) and spot figures (R127 to R130). With ζ = e^(2πi/L) and h = L/2, a list of h integers stands for
the sum of its members times 1, ζ, …, ζ^(h−1); ζ^h is −1 (log 16). -/

namespace Sys2Proof.Machine

/-! ### Sums of powers of ζ -/

/-- z × ζ^p added to a sum. -/
def addRoot (h p : Nat) (z : Int) (sum : List Int) : List Int :=
  if p % (2 * h) < h then sum.modify (p % (2 * h)) (· + z) else sum.modify (p % (2 * h) - h) (· - z)

/-- 4 × Y[k] of one segment: w_n is (2 − ζ^n − ζ^(−n)) / 4 (R119, R120). Exponents are taken modulo L = 2h. -/
def transform (h k : Nat) (segment : List Int) : List Int :=
  segment.zipIdx.foldl
    (fun sum p =>
      let turn := (2 * h - k % (2 * h)) * p.2
      addRoot h (turn + (2 * h - 1) * p.2) (-p.1) (addRoot h (turn + p.2) (-p.1) (addRoot h turn (2 * p.1) sum)))
    (List.replicate h 0)

/-- x × conj(y) + conj(x) × y for two sums: twice the real part of x × conj(y). -/
def twiceRealProduct (h : Nat) (x y : List Int) : List Int :=
  x.zipIdx.foldl
    (fun sum p =>
      y.zipIdx.foldl
        (fun sum q => addRoot h (q.2 + 2 * h - p.2) (p.1 * q.1) (addRoot h (p.2 + 2 * h - q.2) (p.1 * q.1) sum)) sum)
    (List.replicate h 0)

/-- Two sums added. -/
def addSums (x y : List Int) : List Int :=
  List.zipWith (· + ·) x y

/-- The power of bin k from one segment of each channel, times 32 (R121, R122). -/
def binPower (h k : Nat) (segment1 segment2 : List Int) : List Int :=
  twiceRealProduct h (transform h k segment1) (transform h k segment2)

/-- A real sum as a surd, for L = 2^(m+2): it is its constant plus its i-th member times 2cos(2πi/L), for i from 1 to
h/2 − 1. -/
def surdOfSum (m : Nat) (sum : List Int) : Surd m :=
  ((sum.take (2 ^ m)).zipIdx.drop 1).foldl
    (fun total p => surdAdd m total (surdMul m (surdOfInt m p.1) (surdCosMultiple m p.2)))
    (surdOfInt m (sum.headD 0))

/-! ### Segments (R116, R118) -/

/-- The exponent of the segment length used: the one requested, reduced to the greatest that fits N (R116). -/
def exponentUsed (requested length : Nat) : Nat :=
  if 2 ^ requested ≤ length then requested else Nat.log2 length

/-- The working spectrum on entry: power sums zero (R114). -/
def newSpectrum (requested length : Nat) : Spectrum :=
  let e := exponentUsed requested length
  { exponent := e, segments := length / 2 ^ e, segment := 0
    sums := List.replicate (2 ^ e / 2 - 1) (List.replicate (2 ^ e / 2) 0) }

/-- The TIE values of one segment (R118). -/
def segmentOf (exponent j : Nat) (tie : List Int) : List Int :=
  (tie.drop (j * 2 ^ exponent)).take (2 ^ exponent)

/-- The segment in progress is finished: its power at each bin is added to that bin's sum (R114). -/
def addSegment (tie1 tie2 : List Int) (sp : Spectrum) : Spectrum :=
  let h := 2 ^ sp.exponent / 2
  let x := segmentOf sp.exponent sp.segment tie1
  let y := segmentOf sp.exponent sp.segment tie2
  { sp with segment := sp.segment + 1, sums := sp.sums.zipIdx.map fun p => addSums p.1 (binPower h (p.2 + 1) x y) }

/-- So many segments are finished in turn. -/
def addSegments (tie1 tie2 : List Int) : Nat → Spectrum → Spectrum
  | 0, sp => sp
  | n + 1, sp => addSegments tie1 tie2 n (addSegment tie1 tie2 sp)

/-! ### Bin powers -/

/-- The power over so many bins, times 6JL², less the floor's 2 × n × σ_f² / L when it is corrected (R126, R128). -/
def correctedPower (sp : Spectrum) (bins : List (List Int)) (floorSquare : Nat) : List Int :=
  let total := bins.foldl addSums (List.replicate (2 ^ sp.exponent / 2) 0)
  let floor : Int := 12 * bins.length * floorSquare * sp.segments * 2 ^ sp.exponent
  total.modify 0 (· - floor)

/-- The sign of a power. -/
def powerSign (sp : Spectrum) (power : List Int) : Int :=
  surdSign (sp.exponent - 2) (surdOfSum (sp.exponent - 2) power)

/-- Whether power × `a` reaches `b`. -/
def powerReaches (sp : Spectrum) (power : List Int) (a b : Nat) : Bool :=
  let m := sp.exponent - 2
  decide (0 ≤ surdSign m (surdAdd m (surdMul m (surdOfInt m a) (surdOfSum m power)) (surdOfInt m (-(b : Int)))))

/-! ### Band figures -/

/-- k_first (R124). -/
def firstBin (fLo fNom prescale length : Nat) : Nat :=
  max 1 (ceilDiv (fLo * prescale * length) fNom)

/-- k_last (R124). -/
def lastBin (fHi fNom prescale length : Nat) : Nat :=
  min (length / 2 - 1) (fHi * prescale * length / fNom)

/-- BAND_CLIPPED (R125). -/
def bandClips (band : Nat × Nat) (fNom prescale length : Nat) : Bool :=
  decide (band.1 * prescale * length < fNom) || decide ((length / 2 - 1) * fNom < band.2 * prescale * length)

/-- The value of a band from its power, which is positive: √S in femtoseconds, ties up (R126, R109). -/
def bandValue (sp : Spectrum) (power : List Int) : Nat :=
  greatestFrom
    (fun n => decide (n = 0) ||
      powerReaches sp power (4 * 78125 ^ 2) ((2 * n - 1) ^ 2 * 32768 ^ 2 * 6 * sp.segments * (2 ^ sp.exponent) ^ 2))
    33 0

/-- A band figure (R124 to R126). -/
def bandFigure (sp : Spectrum) (fNom prescale floorSquare : Nat) (band : Nat × Nat) : Figure :=
  let length := 2 ^ sp.exponent
  let first := firstBin band.1 fNom prescale length
  let last := lastBin band.2 fNom prescale length
  let clipped := bandClips band fNom prescale length
  if last < first then { value := none, flags := { bandClipped := clipped, bandEmpty := true } }
  else
    let power := correctedPower sp ((sp.sums.drop (first - 1)).take (last + 1 - first)) floorSquare
    let f := if powerSign sp power ≤ 0 then floorFigure else saturated (bandValue sp power)
    { f with flags := { f.flags with bandClipped := clipped } }

/-! ### Spot figures -/

/-- k_o before it is moved into the formed bins (R127). -/
def spotBinRaw (fO fNom prescale length : Nat) : Nat :=
  (2 * fO * prescale * length + fNom) / (2 * fNom)

/-- k_o (R127). -/
def spotBin (fO fNom prescale length : Nat) : Nat :=
  max 1 (min (length / 2 - 1) (spotBinRaw fO fNom prescale length))

/-- OFFSET_CLIPPED (R127). -/
def spotClips (fO fNom prescale length : Nat) : Bool :=
  decide (spotBinRaw fO fNom prescale length ≠ spotBin fO fNom prescale length)

/-- Whether X^2000 reaches 10^(2n−1) for X = x × factor × pi² / divisor, with x^2000 given. -/
def levelReaches (m : Nat) (power2000 : Surd m) (factor divisor : Nat) (n : Int) (pi : ℚ) : Bool :=
  let left : Nat := (factor * pi.num.toNat ^ 2) ^ 2000 * 10 ^ (1 - 2 * n).toNat
  let right : Nat := (divisor * pi.den ^ 2) ^ 2000 * 10 ^ (2 * n - 1).toNat
  decide (0 ≤ surdSign m (surdAdd m (surdMul m (surdOfInt m left) power2000) (surdOfInt m (-right))))

/-- Whether 1000 × log10 X reaches `n − 1/2`, that is whether X^2000 reaches 10^(2n−1), for
X = power × factor × π² / divisor (R115, R129, R130): the first enclosure of π that settles it does, and where none does the
two are equal, a tie, which goes up (log 15). -/
def spotReaches (sp : Spectrum) (power : List Int) (factor divisor : Nat) (n : Int) : Bool :=
  let m := sp.exponent - 2
  let x := surdPow m (surdOfSum m power) 2000
  firstAnswer fun k =>
    if levelReaches m x factor divisor n (piBelow k) then some true
    else if !levelReaches m x factor divisor n (piAbove k) then some false
    else none

/-- The value of a spot from its power, which is positive, in centi-dB, clamped (R129, R130). -/
def spotLevel (reaches : Int → Bool) : Figure :=
  if !reaches (-20000) then { value := some (-20000), flags := { saturated := true } }
  else if reaches 1 then { value := some 0, flags := { saturated := true } }
  else { value := some ((greatestFrom (fun n => decide (n ≤ 20000) && reaches ((n : Int) - 20000)) 15 0 : Nat) - 20000) }

/-- A spot figure (R127 to R130). -/
def spotFigure (sp : Spectrum) (fNom prescale floorSquare fO : Nat) : Figure :=
  let length := 2 ^ sp.exponent
  let bin := (sp.sums.drop (spotBin fO fNom prescale length - 1)).take 1
  let power := correctedPower sp bin floorSquare
  let f : Figure :=
    if powerSign sp power ≤ 0 then { value := some (-20000), flags := { atFloor := true } }
    else
      spotLevel (spotReaches sp power (78125 ^ 2 * fNom * prescale)
        (3 * sp.segments * length * 32768 ^ 2 * 10 ^ 30))
  { f with flags := { f.flags with offsetClipped := spotClips fO fNom prescale length } }

/-! ### The pass -/

/-- The figures that a list of bands or spots defines, in list order (R124, R127). -/
def withFigures (names : List FigureName) (formed : List Figure) (figures : Figures) : Figures :=
  (names.zip formed).foldl (fun all p => withFigure all p.1 p.2) figures

/-- Every spectral figure of a job, from a finished spectrum (R131). -/
def spectralFigures (sp : Spectrum) (j : Job) (floorSquare : Nat) (figures : Figures) : Figures :=
  withFigures [.spot0, .spot1, .spot2, .spot3] (j.spots.map (spotFigure sp j.fNom j.prescale floorSquare))
    (withFigures [.band0, .band1, .band2, .band3] (j.bands.map (bandFigure sp j.fNom j.prescale floorSquare)) figures)

end Sys2Proof.Machine
end

