-- ==== Sys2Proof/Machine/Engine.lean ====
section
/-! DEFINITION. The analysis engine: the end of the time pass (R92, R97 to R111), the segments and the end of the spectral
pass (R114 to R131), and the posting (R93). -/

namespace Sys2Proof.Machine

/-! ### The item's data -/

/-- The record in the bank of a leg (R88). -/
def legRecord (s : State) (leg : Leg) : List Timestamp :=
  (bankOf (channelOfState s leg.channel) leg.bank).record

/-- The records an analysis uses: one for SINGLE, two after alignment for PAIRED with whether they were realigned, or none
on PAIR_SLIP (R97). -/
def itemRecords (s : State) (item : Item) (j : Job) : Option (List Timestamp × Option (List Timestamp) × Bool) :=
  match item.second with
  | none => some (legRecord s item.first, none, false)
  | some leg =>
    (alignPair j.fNom j.prescale j.length (legRecord s item.first) (legRecord s leg)).map fun r =>
      (r.1, some r.2.1, r.2.2)

/-- σ_f² of the snapshot when floor correction applies to the item, and 0 otherwise (R108). -/
def floorSquareOf (item : Item) (j : Job) : Nat :=
  if j.floorCorrection && item.second.isNone then item.first.snapshot.floor ^ 2 else 0

/-- CAL_STALE: a mark of any of the item's snapshots (R110). -/
def itemStale (item : Item) : Bool :=
  item.first.snapshot.stale ||
    match item.second with
    | some leg => leg.snapshot.stale
    | none => false

/-! ### The time pass -/

/-- The FREQ_OFFSET of a record, in ppb (R99). -/
def recordOffset (t : List Timestamp) (j : Job) : Int :=
  frequencyOffset (meanInterval t) j.fNom j.prescale

/-- Beyond this FREQ_OFFSET the status is OFF_NOMINAL (R100). -/
def offsetBound : Nat :=
  20000000

/-- FREQ_OFFSET and the five time figures (R99, R102 to R107). -/
def timeFigures (t : List Timestamp) (second : Option (List Timestamp)) (j : Job) (floorSquare : Nat) : Figures :=
  let tie := match second with
    | none => tieRms t floorSquare
    | some t2 => tieRmsPaired t t2
  withFigure (withFigure (withFigure (withFigure (withFigure (withFigure noFigures
    .freqOffset (offsetFigure (recordOffset t j))) .tieRms tie) .tiePp (tiePp t)) .perRms (perRms t floorSquare))
    .c2cRms (c2cRms t floorSquare)) .c2cPeak (c2cPeak t)

/-- The record flags of the time pass (R110). -/
def timeFlags (item : Item) (j : Job) (realigned : Bool) : RecordFlags :=
  { prescaleAdjusted := j.adjusted, calStale := itemStale item, realigned }

/-- The least N for a spectral pass (R114). -/
def spectralLeast : Nat :=
  1024

/-- Where the engine goes with all time figures computed (R92, R114, R116, R117). -/
def afterTimeFigures (item : Item) (j : Job) (w : Working) : Engine :=
  if !j.spectral then .verdict item w
  else if j.length < spectralLeast then .verdict item { w with flags := { w.flags with spectralSkipped := true } }
  else
    let requested := j.exponent.getD 10
    let sp := newSpectrum requested j.length
    .spectralPass item { w with flags := { w.flags with segmentReduced := decide (sp.exponent ≠ requested) } } sp

/-- The engine after the time pass of an item with the records given (R92, R97, R100, R111). -/
def afterTimePass (item : Item) (j : Job) (records : Option (List Timestamp × Option (List Timestamp) × Bool)) : Engine :=
  match records with
  | none =>
    .verdict item { status := .pairSlip, flags := timeFlags item j false, segmentExponent := none, figures := noFigures }
  | some (t, second, realigned) =>
    let flags := timeFlags item j realigned
    if offsetBound < (recordOffset t j).natAbs then
      .verdict item
        { status := .offNominal, flags, segmentExponent := none
          figures := withFigure noFigures .freqOffset (offsetFigure (recordOffset t j)) }
    else
      afterTimeFigures item j
        { status := .complete, flags, segmentExponent := none, figures := timeFigures t second j (floorSquareOf item j) }

/-- The time pass ends (R92). -/
def endTimePass (s : State) : State :=
  match s.engine with
  | .timePass item _ =>
    match jobWithId s item.job with
    | some j => setEngine (afterTimePass item j (itemRecords s item j)) s
    | none => s
  | _ => s

/-! ### The spectral pass -/

/-- The TIE sequences of an item: the one sequence twice for SINGLE, the two of the aligned records for PAIRED (R101,
R114, R118). -/
def itemTies (s : State) (item : Item) (j : Job) : List Int × List Int :=
  match itemRecords s item j with
  | some (t, none, _) => (tieOf t, tieOf t)
  | some (t, some t2, _) => (tieOf t, tieOf t2)
  | none => ([], [])

/-- So many segments of the spectral pass in progress are finished (R114). -/
def finishSegments (count : Nat) (s : State) : State :=
  match s.engine with
  | .spectralPass item w sp =>
    match jobWithId s item.job with
    | some j =>
      let ties := itemTies s item j
      setEngine (.spectralPass item w (addSegments ties.1 ties.2 count sp)) s
    | none => s
  | _ => s

/-- The segments the spectral pass in progress has still to finish. -/
def segmentsLeft (s : State) : Nat :=
  match s.engine with
  | .spectralPass _ _ sp => sp.segments - sp.segment
  | _ => 0

/-- The working result at the end of the spectral pass (R131). -/
def withSpectral (w : Working) (sp : Spectrum) (j : Job) (floorSquare : Nat) : Working :=
  { w with segmentExponent := some sp.exponent, figures := spectralFigures sp j floorSquare w.figures }

/-- All segments finished, the figures are formed and the engine enters VERDICT (R114, R131). -/
def formSpectral (s : State) : State :=
  match s.engine with
  | .spectralPass item w sp =>
    match jobWithId s item.job with
    | some j => setEngine (.verdict item (withSpectral w sp j (floorSquareOf item j))) s
    | none => s
  | _ => s

/-- The spectral pass ends: the segments left are finished and the figures formed (R131). -/
def endSpectralPass (s : State) : State :=
  formSpectral (finishSegments (segmentsLeft s) s)

/-! ### The posting -/

/-- The engine posts the result of an item: the record is posted, the banks are FREE, the in-use count falls, the job is
DONE, and the engine takes the next item or is IDLE; the dispatcher examines its head (R93). -/
def postItem (item : Item) (w : Working) (j : Job) (s : State) : State :=
  let s := finishJob j w (freeItemBanks item s)
  let s := takeItem (setEngine .idle s)
  followIdle (examine (groupOfChannel item.first.channel) s)

/-- The verdict stage ends (R93). -/
def enginePost (s : State) : State :=
  match s.engine with
  | .verdict item w =>
    match jobWithId s item.job with
    | some j => postItem item w j s
    | none => s
  | _ => s

end Sys2Proof.Machine
end

