-- ==== Sys2Proof/Config.lean ====
section
/-! DEFINITION. What the manual leaves open, as constants without a body: nothing can be proved about their values,
so a claim holds whatever they are. -/

namespace Sys2Proof

/-- What can happen next in the part when no command waits (log 5). -/
inductive IdleEvent where
  /-- A rising edge of the reference input falls in the gate in progress (R1). -/
  | referenceEdge
  /-- One coarse tick passes (R7). -/
  | coarseTick
  /-- The settling end, gate or deadline of a channel that falls on the present tick is taken (R21, R26, R41, R44, R45). -/
  | channelDue (channel : ChannelId)
  /-- A period of the internal 25 MHz oscillator ends; the trigger line and the receive line are sensed (R81, R184). -/
  | internalPeriod (triggerLine receiveLine : Level)
  /-- The spectral pass finishes its segment in progress, unless it is the last one (R114). -/
  | segmentEnd
deriving DecidableEq, Repr, Inhabited

/-- The free value that says which event comes next when no command waits; its argument numbers the free values (log 5). -/
opaque Config.idleEvent : Nat → IdleEvent

/-- The free value that says in which order a reference loss ends the channels' captures (log 11). Channels it does not
name are ended after those it names. -/
opaque Config.lossOrder : Nat → List ChannelId

/-- The free value of the σ_f field of a CAL_READ reply when the σ_f of a FLOOR_HIGH record, its argument, is above
4,294,967,295 su: R37 bounds it nowhere, and section 11.8 gives it four bytes (log 28). -/
opaque Config.floorFieldBeyond : Nat → BitVec 32

end Sys2Proof
end

