-- ==== Sys2Proof/Machine/Calibration.lean ====
section
/-! DEFINITION. The calibration unit: the code-density pass, the floor pass and their ends (R33, R37 to R49), invalidation
(R51, R52), and the requests CALIBRATE and CAL_READ (R39, R53). -/

namespace Sys2Proof.Machine

/-- The working context of a BUSY section. -/
def sectionContext (s : State) (g : Group) : Option SectionContext :=
  match sectionOf s g with
  | .busy ctx => some ctx
  | .free => none

/-- The hits of a complete histogram (R41). -/
def histogramSize : Nat :=
  65536

/-- Time passes to the tick on which a channel's next event is due, when the counter runs and no event due earlier would
be passed over (R7, log 4). -/
def toDueTick (c : ChannelId) (s : State) : Option State :=
  match dueTick s c with
  | none => none
  | some t => if counterRuns s && ticksCanPass s (ticksUntil s t) then some (passTicks (ticksUntil s t) s) else none

/-! ### The code-density pass -/

/-- The selector settling of the code-density pass runs out (R41). -/
def endCalSettling (g : Group) (s : State) : State :=
  match sectionContext s g with
  | none => s
  | some ctx =>
    if ctx.pass = .codeDensity ∧ ctx.settled = false then
      match toDueTick ctx.channel s with
      | some s' => setSection g (.busy { ctx with settled := true }) s'
      | none => s
    else s

/-- A hit: one is added to the histogram at its code and to the hit count (R41). -/
def withHit (ctx : SectionContext) (code : Byte) : SectionContext :=
  { ctx with histogram := ctx.histogram.modify code.toNat (· + 1), hits := ctx.hits + 1 }

/-- Whether a section takes codes as hits: in the code-density pass, after its settling, until 65,536 (R41). -/
def takesHits (ctx : SectionContext) : Bool :=
  decide (ctx.pass = .codeDensity) && ctx.settled && decide (ctx.hits < histogramSize)

/-- A raw fine code reaches a group's section from DITHER (R41). -/
def deliverCode (g : Group) (code : Byte) (s : State) : State :=
  match sectionContext s g with
  | none => s
  | some ctx => if takesHits ctx then setSection g (.busy (withHit ctx code)) s else s

/-- The span low code: the lowest code hit (R42). -/
def spanLowOf (histogram : List Nat) : Nat :=
  histogram.findIdx fun h => decide (0 < h)

/-- The span high code: the highest code hit (R42). -/
def spanHighOf (histogram : List Nat) : Nat :=
  histogram.length - 1 - histogram.reverse.findIdx fun h => decide (0 < h)

/-- The cause for which a complete histogram fails, in the order of R42. -/
def spanFault (histogram : List Nat) : Option FailCause :=
  let span := spanHighOf histogram - spanLowOf histogram + 1
  if span < 128 then some .narrowRange
  else if histogram.any fun h => decide (262144 < h * span) then some .wideCode
  else none

/-- The working fine table: code c of the span at the middle of the time it covers, (2C + H + 16) / 32 clamped to 4,095;
0 below the span and 4,095 above it (R43). -/
def buildTable (histogram : List Nat) : List Nat :=
  (List.range 256).map fun c =>
    if c < spanLowOf histogram then 0
    else if spanHighOf histogram < c then 4095
    else min 4095 ((2 * (histogram.take c).sum + histogram.getD c 0 + 16) / 32)

/-- A calibration ends: the record is written, the section is FREE, the channel is IDLE, the dispatcher examines its head,
and CAL_DONE is raised (R48, R49). -/
def endCalibration (g : Group) (c : ChannelId) (record : CalRecord) (s : State) : State :=
  let s := setRecord c record s
  let s := setSection g .free s
  let s := setChannel c { channelOfState s c with state := .idle } s
  followIdle (raise .calDone (examine g s))

/-- The floor pass starts: pass FLOOR with the span and working table kept, selector REF_LOOP, prescale ratio 1, CALIBRATING
(R33, R44). The prescaler's count is left until the gate sets it to 0: the model's choice (log 27). -/
def startFloorPass (g : Group) (ctx : SectionContext) (s : State) : State :=
  let ctx' : SectionContext :=
    { ctx with pass := .floor, spanLow := spanLowOf ctx.histogram, spanHigh := spanHighOf ctx.histogram
               table := buildTable ctx.histogram, timestamps := [], settlingEnd := tickAfter s 8000, settled := false
               nextIndex := -2, previous := none, deadline := none }
  let s := setSection g (.busy ctx') s
  setChannel ctx.channel
    { channelOfState s ctx.channel with selector := .refLoop, ratio := 1, state := .calibrating } s

/-- The span and table computation ends (R41 to R44). -/
def endCodeDensity (g : Group) (s : State) : State :=
  match sectionContext s g with
  | none => s
  | some ctx =>
    if ctx.pass = .codeDensity ∧ ctx.hits = histogramSize then
      match spanFault ctx.histogram with
      | some cause =>
        endCalibration g ctx.channel
          (.failed cause (some (spanLowOf ctx.histogram, spanHighOf ctx.histogram)) none) s
      | none => startFloorPass g ctx s
    else s

/-! ### The floor pass -/

/-- The length of a floor record (R44). -/
def floorRecordLength : Nat :=
  65536

/-- The floor pass's edge timeout, in coarse ticks: f_nom 10,000,000 Hz and P = 1 (R33). -/
def floorTimeout : Nat :=
  160

/-- The floor pass opens its start gate at the end of its selector settling (R33, R44, log 13). -/
def openFloorGate (g : Group) (s : State) : State :=
  match sectionContext s g with
  | none => s
  | some ctx =>
    if ctx.pass = .floor ∧ ctx.settled = false then
      match toDueTick ctx.channel s with
      | some s' =>
        let s' := setSection g
          (.busy { ctx with settled := true, nextIndex := -2, previous := none, deadline := some (tickAfter s' floorTimeout) }) s'
        setChannel ctx.channel { channelOfState s' ctx.channel with count := 0 } s'
      | none => s
    else s

/-- The FAILED record of a calibration that fails in its floor pass (R45, R49). -/
def floorFailure (ctx : SectionContext) (cause : FailCause) (floor : Option Nat) : CalRecord :=
  .failed cause (some (ctx.spanLow, ctx.spanHigh)) floor

/-- Whether an interval of the floor pass passes its period check (R33, R44). -/
def floorIntervalPasses (ctx : SectionContext) (t : Timestamp) : Bool :=
  match ctx.previous with
  | none => true
  | some previous => intervalPasses 10000000 1 (forwardDifference t previous)

/-- A floor timestamp that passed its check enters the section; the last one stops the edge timeout (R44, R46). -/
def withFloorTimestamp (ctx : SectionContext) (t : Timestamp) (deadline : Tick) : SectionContext :=
  { ctx with
    timestamps := if 0 ≤ ctx.nextIndex then ctx.timestamps ++ [t] else ctx.timestamps
    nextIndex := ctx.nextIndex + 1
    previous := some t
    deadline := if ctx.nextIndex + 1 = floorRecordLength then none else some deadline }

/-- A REF_LOOP edge in the present tick is timestamped with the working fine table and checked (R44, R45). -/
def takeFloorEdge (g : Group) (code : Byte) (s : State) : State :=
  match sectionContext s g with
  | none => s
  | some ctx =>
    if ctx.pass = .floor ∧ ctx.deadline.isSome then
      let t := timestampOf s ctx.table code
      if floorIntervalPasses ctx t then setSection g (.busy (withFloorTimestamp ctx t (tickAfter s floorTimeout))) s
      else endCalibration g ctx.channel (floorFailure ctx .edgeFault none) s
    else s

/-- The floor pass's edge timeout expires (R45). -/
def expireFloorTimeout (g : Group) (s : State) : State :=
  match sectionContext s g with
  | none => s
  | some ctx =>
    if ctx.pass = .floor ∧ ctx.deadline.isSome then
      match toDueTick ctx.channel s with
      | some s' => endCalibration g ctx.channel (floorFailure ctx .noSignal none) s'
      | none => s
    else s

/-- The greatest σ_f of a VALID record, in su (R47). -/
def floorBound : Nat :=
  4000

/-- The record a finished floor computation gives: VALID with the present temperature reading, or FAILED with FLOOR_HIGH
(R47 to R49). -/
def floorOutcome (ctx : SectionContext) (reading : Int) : CalRecord :=
  let sigma := floorSigma ctx.timestamps
  if sigma ≤ floorBound then .valid reading ctx.spanLow ctx.spanHigh ctx.table sigma
  else floorFailure ctx .floorHigh (some sigma)

/-- The floor computation ends (R46). -/
def endFloorComputation (g : Group) (s : State) : State :=
  match sectionContext s g with
  | none => s
  | some ctx =>
    if ctx.pass = .floor ∧ ctx.timestamps.length = floorRecordLength then
      endCalibration g ctx.channel (floorOutcome ctx s.timebase.temperature) s
    else s

/-! ### Reference loss (R52) -/

/-- The span a calibration ended by reference loss keeps: present when its histogram was complete (R52). -/
def lostSpan (ctx : SectionContext) : Option (Nat × Nat) :=
  if ctx.hits = histogramSize then some (spanLowOf ctx.histogram, spanHighOf ctx.histogram) else none

/-- What a reference loss does to a channel's record: VALID becomes UNCAL; RUNNING becomes FAILED with REF_LOST, its section
FREE and its channel IDLE, and CAL_DONE is raised (R52). -/
def loseCalibration (s : State) (c : ChannelId) : State :=
  match recordOf s c with
  | .valid _ _ _ _ _ => setRecord c .uncal s
  | .running =>
    let g := groupOfChannel c
    match sectionOf s g with
    | .busy ctx =>
      if ctx.channel = c then
        let s := setRecord c (.failed .refLost (lostSpan ctx) none) s
        let s := setSection g .free s
        raise .calDone (setChannel c { channelOfState s c with state := .idle } s)
      else raise .calDone (setRecord c (.failed .refLost none none) s)
    | .free => raise .calDone (setRecord c (.failed .refLost none none) s)
  | .uncal => s
  | .failed _ _ _ => s

/-! ### Requests -/

/-- Whether a calibration entry for a channel waits in its group queue (R39). -/
def calibrationQueued (s : State) (c : ChannelId) : Bool :=
  (queueOf s (groupOfChannel c)).any fun e => decide (e = .calibration c)

/-- CALIBRATE (R39). The reply reports the record as the request leaves it, before the dispatcher's examination (log
22). -/
def serveCalibrate (channel : Byte) (s : State) : List Byte × State :=
  match channelOf channel with
  | none => (badField 1, s)
  | some c =>
    let state := calStateCode (recordOf s c)
    if calibrationQueued s c || decide (recordOf s c = .running) then (okReply [byteOfBool true, state], s)
    else
      let g := groupOfChannel c
      (okReply [byteOfBool false, state],
        followIdle (examine g (setQueue g (queueOf s g ++ [.calibration c]) s)))

/-- The σ_f field of a CAL_READ reply: the four bytes section 11.8 gives it, or a free value where they do not hold the σ_f
of a FLOOR_HIGH record (log 28). -/
def floorFieldBytes (sigma : Nat) : List Byte :=
  if sigma ≤ 4294967295 then bytes32OfNat sigma else bytes32 (Config.floorFieldBeyond sigma)

/-- The fail cause, temperature, span, fine table and σ_f of a record, each when present (section 11.8). -/
def calFieldBytes : CalRecord → List Byte
  | .uncal => []
  | .running => []
  | .valid temperature low high table floor =>
    bytes16OfInt temperature ++ [byteOfNat low, byteOfNat high] ++ table.flatMap bytes16OfNat ++ floorFieldBytes floor
  | .failed cause span floor =>
    [failCauseCode cause]
    ++ (match span with
        | some (low, high) => [byteOfNat low, byteOfNat high]
        | none => [])
    ++ (match floor with
        | some sigma => floorFieldBytes sigma
        | none => [])

/-- The presence mask of a CAL_READ reply (section 11.8), `busy` being whether the section is BUSY with the channel. -/
def calMask (record : CalRecord) (busy : Bool) : Byte :=
  match record with
  | .uncal => byteOfBits false false false false false busy false false
  | .running => byteOfBits false false false false false busy false false
  | .valid _ _ _ _ _ => byteOfBits false true true true true busy false false
  | .failed _ span floor => byteOfBits true false span.isSome false floor.isSome busy false false

/-- The pass a group's section runs on a channel, if it is BUSY with it. -/
def passOn (s : State) (c : ChannelId) : Option Pass :=
  match sectionOf s (groupOfChannel c) with
  | .busy ctx => if ctx.channel = c then some ctx.pass else none
  | .free => none

/-- CAL_READ (R53, section 11.8). -/
def serveCalRead (channel : Byte) (s : State) : List Byte × State :=
  match channelOf channel with
  | none => (badField 1, s)
  | some c =>
    let record := recordOf s c
    let busy := passOn s c
    (okReply
      ([channelCode c, calStateCode record, calMask record busy.isSome,
        byteOfBits (isStale s.timebase.temperature record) (calibrationQueued s c) busy.isSome
          false false false false false]
      ++ bytes16OfInt s.timebase.temperature ++ calFieldBytes record
      ++ (match busy with
          | some pass => [passCode pass]
          | none => [])), s)

end Sys2Proof.Machine
end

