-- ==== Sys2Proof/Machine/Capture.lean ====
section
/-! DEFINITION. The capture channels and pair units: start gates (R22, R23), prescaler, timestamps and period check (R16,
R24, R25), edge timeout (R26), completions (R27, R28), failures (R29, R30), reference loss (R31), and CHANNEL_CONFIG
(R13, R14). -/

namespace Sys2Proof.Machine

/-! ### Start gates -/

/-- A channel's start gate opens at the present tick (R22). -/
def openGate (c : ChannelId) (s : State) : State :=
  let ch := channelOfState s c
  match ch.context with
  | none => s
  | some ctx =>
    setChannel c
      { ch with
        state := .capturing, count := 0
        context := some { ctx with nextIndex := -2, previous := none, deadline := some (tickAfter s ctx.timeout) } } s

/-- A paired channel reports its settling end to its pair unit; with both reports held the common gate opens (R23). -/
def reportSettled (c : ChannelId) (s : State) : State :=
  let g := groupOfChannel c
  match pairOf s g with
  | .settling job low high =>
    let low := low || decide (c = lowChannel g)
    let high := high || decide (c = highChannel g)
    if low && high then
      setJobState job .capturing (setPair g (.capturing job false false) (openGate (highChannel g) (openGate (lowChannel g) s)))
    else setPair g (.settling job low high) s
  | _ => s

/-- A channel's settling end is taken at the present tick (R21 to R23). -/
def takeSettlingEnd (c : ChannelId) (s : State) : State :=
  match (channelOfState s c).context with
  | none => s
  | some ctx =>
    match ctx.mode with
    | .single => setJobState ctx.job .capturing (openGate c s)
    | .paired => reportSettled c s

/-- The settling end of a settling channel, at its tick (R21). -/
def endSettling (c : ChannelId) (s : State) : State :=
  if (channelOfState s c).state = .settling then
    match toDueTick c s with
    | some s' => takeSettlingEnd c s'
    | none => s
  else s

/-! ### Ends of a capture -/

/-- A capture fails: it stops, the job block ends the job with the status, and the dispatcher examines its head (R29, R30). -/
def failCapture (c : ChannelId) (ctx : CaptureContext) (status : Ending) (s : State) : State :=
  followIdle (examine (groupOfChannel c) (endJob ctx.job status (stopCapture c ctx.mode s)))

/-- A channel's capture completes: its FILLING bank becomes FULL, its context is discarded, and it returns to IDLE (R27,
R28). -/
def fillBank (c : ChannelId) (ctx : CaptureContext) (s : State) : State :=
  let ch := channelOfState s c
  let full : Bank := { state := .full, record := (bankOf ch ctx.bank).record }
  setChannel c { withBank ch ctx.bank full with state := .idle, context := none } s

/-- What a capture gives an analysis item (R88). -/
def legOf (c : ChannelId) (ctx : CaptureContext) : Leg :=
  { channel := c, bank := ctx.bank, snapshot := ctx.snapshot }

/-- A SINGLE record is complete (R27). -/
def completeSingle (c : ChannelId) (ctx : CaptureContext) (s : State) : State :=
  let s := joinAnalysis { job := ctx.job, first := legOf c ctx, second := none } (fillBank c ctx s)
  followIdle (examine (groupOfChannel c) s)

/-- The pair completes: both banks FULL, both channels IDLE, one item, the pair unit IDLE (R28). -/
def completePair (g : Group) (low high : CaptureContext) (s : State) : State :=
  let s := setPair g .idle (fillBank (highChannel g) high (fillBank (lowChannel g) low s))
  let s := joinAnalysis
    { job := low.job, first := legOf (lowChannel g) low, second := some (legOf (highChannel g) high) } s
  followIdle (examine g s)

/-- A paired channel reports its full record to the pair unit; with both full the pair completes (R28). -/
def reportFull (c : ChannelId) (s : State) : State :=
  let g := groupOfChannel c
  match pairOf s g with
  | .capturing job low high =>
    let low := low || decide (c = lowChannel g)
    let high := high || decide (c = highChannel g)
    if low && high then
      match (channelOfState s (lowChannel g)).context, (channelOfState s (highChannel g)).context with
      | some l, some h => completePair g l h s
      | _, _ => s
    else setPair g (.capturing job low high) s
  | _ => s

/-- A record that has its last timestamp (R24). -/
def endRecord (c : ChannelId) (ctx : CaptureContext) (s : State) : State :=
  match ctx.mode with
  | .single => completeSingle c ctx s
  | .paired => reportFull c s

/-! ### Taking edges -/

/-- Whether a timestamp's interval from the one before it passes; discard 1 has none (R24, R25). -/
def timestampPasses (ctx : CaptureContext) (t : Timestamp) : Bool :=
  match ctx.previous with
  | none => true
  | some previous => intervalPasses ctx.fNom ctx.prescale (forwardDifference t previous)

/-- Whether a timestamp that passes is the last of the record (R24). -/
def isLastIndex (ctx : CaptureContext) : Bool :=
  decide (ctx.nextIndex + 1 = (ctx.recordLength : Int))

/-- The context after a timestamp that passed: the index advances, the timestamp is the previous one, and the deadline
moves; the last timestamp stops the edge timeout (R24, R26, R28). -/
def nextContext (ctx : CaptureContext) (t : Timestamp) (deadline : Tick) : CaptureContext :=
  { ctx with
    nextIndex := ctx.nextIndex + 1, previous := some t
    deadline := if isLastIndex ctx then none else some deadline }

/-- A bank with a timestamp appended, from record index 0 on (R24). -/
def withTimestamp (ctx : CaptureContext) (t : Timestamp) (b : Bank) : Bank :=
  if 0 ≤ ctx.nextIndex then { b with record := b.record ++ [t] } else b

/-- A timestamp that passed is kept, and stored from index 0 on (R24). -/
def storeTimestamp (c : ChannelId) (ctx : CaptureContext) (t : Timestamp) (s : State) : State :=
  let ch := channelOfState s c
  let ctx' := nextContext ctx t (tickAfter s ctx.timeout)
  setChannel c { withBank ch ctx.bank (withTimestamp ctx t (bankOf ch ctx.bank)) with context := some ctx' } s

/-- A timestamp of a capture is checked, and kept or the capture fails; the last one completes the record (R24, R25). -/
def takeTimestamp (c : ChannelId) (ctx : CaptureContext) (t : Timestamp) (s : State) : State :=
  if timestampPasses ctx t then
    let s' := storeTimestamp c ctx t s
    if isLastIndex ctx then endRecord c ctx s' else s'
  else failCapture c ctx (.edgeFault ctx.nextIndex c) s

/-- The timestamp of an edge on a channel, by its calibration record's fine table (R8, R17). -/
def channelTimestamp (s : State) (c : ChannelId) (code : Byte) : Timestamp :=
  timestampOf s (fineTable (recordOf s c)) code

/-- The capture context of a channel whose gate is open and whose record is not full (R16, R28). -/
def openContext (s : State) (c : ChannelId) : Option CaptureContext :=
  let ch := channelOfState s c
  if ch.state = .capturing then ch.context.filter fun ctx => ctx.deadline.isSome else none

/-- The prescaled edge: the count returns to 0 and the edge is timestamped (R16, R17, R24). -/
def takePrescaledEdge (c : ChannelId) (ctx : CaptureContext) (code : Byte) (s : State) : State :=
  takeTimestamp c ctx (channelTimestamp s c code) (setChannel c { channelOfState s c with count := 0 } s)

/-- Whether the next counted edge brings the prescaler count to P (R16). -/
def edgeReachesRatio (s : State) (c : ChannelId) : Bool :=
  decide ((channelOfState s c).ratio ≤ (channelOfState s c).count + 1)

/-- A comparator edge in the present tick: counted while the gate is open, and passed on when the count reaches P; passed
to the calibration section while the channel is CALIBRATING (R16, R17, R33). -/
def takeComparatorEdge (c : ChannelId) (code : Byte) (s : State) : State :=
  match openContext s c with
  | some ctx =>
    if edgeReachesRatio s c then takePrescaledEdge c ctx code s
    else setChannel c { channelOfState s c with count := (channelOfState s c).count + 1 } s
  | none =>
    if (channelOfState s c).state = .calibrating ∧ (sectionContext s (groupOfChannel c)).map (·.channel) = some c then
      takeFloorEdge (groupOfChannel c) code (deliverCode (groupOfChannel c) code s)
    else s

/-- So many ticks pass and then the edge falls, unless an event due earlier would be passed over (R16, log 4). -/
def edgeAfter (c : ChannelId) (ticks : Nat) (code : Byte) (s : State) : State :=
  if ticksCanPass s ticks then takeComparatorEdge c code (passTicks ticks s) else s

/-- Whether a comparator edge after so many ticks is a prescaled edge (R16). -/
def isPrescaledEdge (c : ChannelId) (ticks : Nat) (s : State) : Bool :=
  ticksCanPass s ticks && (openContext s c).isSome && edgeReachesRatio s c

/-- Whether a comparator edge after so many ticks is the prescaled edge that ends a record of the mode given (R27, R28). -/
def endsRecord (mode : Mode) (c : ChannelId) (ticks : Nat) (code : Byte) (s : State) : Bool :=
  isPrescaledEdge c ticks s &&
    match openContext s c with
    | some ctx =>
      decide (ctx.mode = mode) && isLastIndex ctx && timestampPasses ctx (channelTimestamp (passTicks ticks s) c code)
    | none => false

/-- The edge timeout of a capture expires at its deadline (R26). -/
def expireEdgeTimeout (c : ChannelId) (s : State) : State :=
  match openContext s c with
  | none => s
  | some ctx =>
    match toDueTick c s with
    | some s' => failCapture c ctx (.noSignal c) s'
    | none => s

/-! ### Reference loss -/

/-- A reference loss ends a settling or capturing channel's capture with REF_LOST (R31). -/
def loseCapture (s : State) (c : ChannelId) : State :=
  match (channelOfState s c).context with
  | none => s
  | some ctx => endJob ctx.job .refLost (stopCapture c ctx.mode s)

/-! ### CHANNEL_CONFIG -/

/-- The threshold used: the request rounded to the nearest multiple of 10 mV, ties up, then clamped (R13). -/
def usedThreshold (requested : Int) : Int :=
  max (-1000) (min 2500 (roundTiesUp requested 10 * 10))

/-- CHANNEL_CONFIG (R13, R14, R51). -/
def serveChannelConfig (channel : Byte) (threshold : BitVec 16) (termination edge : Byte) (s : State) :
    List Byte × State :=
  match channelOf channel, terminationOf termination, edgeOf edge with
  | none, _, _ => (badField 1, s)
  | some _, none, _ => (badField 3, s)
  | some _, some _, none => (badField 4, s)
  | some c, some t, some e =>
    if (channelOfState s c).state ≠ .idle then (refusal .channelBusy, s)
    else
      let config : ChannelConfig := { threshold := usedThreshold threshold.toInt, termination := t, edge := e }
      let s' := setChannel c { channelOfState s c with config } s
      let s' := if config = (channelOfState s c).config then s' else setRecord c .uncal s'
      (okReply (bytes16OfInt config.threshold
        ++ [terminationCode t, edgeCode e, calStateCode (recordOf s' c)]), s')

end Sys2Proof.Machine
end

