-- ==== Sys2Proof/Machine/Jobs.lean ====
section
/-! DEFINITION. The job block's requests: JOB_SUBMIT with its field checks and acceptance (R55 to R62), the checks of a
named limit entry (R145), JOB_STATUS (R76) and JOB_CANCEL (R78, R94, R95). -/

namespace Sys2Proof.Machine

/-! ### Field checks -/

/-- A field whose value is accepted, or its number (R55, R138, R188). -/
def accept {α : Type} (number : Nat) (value : Option α) : Except Nat α :=
  match value with
  | some x => .ok x
  | none => .error number

/-- An integer in its accepted range (R188). -/
def inRange (low high n : Nat) : Option Nat :=
  if low ≤ n ∧ n ≤ high then some n else none

/-- The channel choice: ANY, or for a SINGLE job a channel of the site's group (R55, R56). -/
def choiceOf (mode : Mode) (site : Site) (b : Byte) : Option (Option ChannelId) :=
  if b = 0xFF then some none
  else
    match channelOf b, mode with
    | some c, .single => if groupOfChannel c = groupOfSite site then some (some c) else none
    | _, _ => none

/-- The greatest N of a mode (R55). -/
def greatestLength : Mode → Nat
  | .single => 1048576
  | .paired => 1048575

/-- The segment exponent: 10 to 16 for a spectral job, absent for any other (R55, R56). -/
def exponentOf (spectral : Bool) (e : Option Byte) : Option (Option Nat) :=
  match spectral, e with
  | true, some b => (inRange 10 16 b.toNat).map some
  | true, none => none
  | false, none => some none
  | false, some _ => none

/-- A band with 1 ≤ f_lo < f_hi ≤ 500,000,000 (R55). -/
def bandAccepted (band : BitVec 32 × BitVec 32) : Bool :=
  decide (1 ≤ band.1.toNat) && decide (band.1.toNat < band.2.toNat) && decide (band.2.toNat ≤ 500000000)

/-- The band list (R55, R56). -/
def bandsOf (spectral : Bool) (bands : List (BitVec 32 × BitVec 32)) : Option (List (Nat × Nat)) :=
  if bands.length ≤ 4 ∧ bands.all bandAccepted = true ∧ (spectral = true ∨ bands = []) then
    some (bands.map fun band => (band.1.toNat, band.2.toNat))
  else none

/-- A spot offset from 1 to 500,000,000 (R55). -/
def spotAccepted (spot : BitVec 32) : Bool :=
  decide (1 ≤ spot.toNat) && decide (spot.toNat ≤ 500000000)

/-- The spot list (R55, R56). -/
def spotsOf (spectral : Bool) (spots : List (BitVec 32)) : Option (List Nat) :=
  if spots.length ≤ 4 ∧ spots.all spotAccepted = true ∧ (spectral = true ∨ spots = []) then
    some (spots.map fun spot => spot.toNat)
  else none

/-- Floor correction, off for a PAIRED job (R55, R56). -/
def floorCorrectionOf (mode : Mode) (b : Byte) : Option Bool :=
  match mode, boolOf b with
  | .paired, some true => none
  | _, value => value

/-- The limit index, if any (R55). -/
def limitOf (b : Option Byte) : Option (Option (Fin 64)) :=
  match b with
  | none => some none
  | some b => (limitIndexOf b).map some

/-- The P a job uses (R59). -/
def usedPrescale (fNom requested : Nat) : Nat :=
  if 50000000 * requested < fNom then ceilDiv fNom 50000000
  else if fNom < 10000 * requested then fNom / 10000
  else requested

/-- The state a job is accepted in (R61). -/
def acceptedState : TriggerField → JobState
  | .immediate => .queued
  | .onTrigger => .held

/-- The record of a submission whose fields are all accepted, its id still to be assigned; or the number of the first
field not accepted (R55, R56, R61). -/
def draftJob (f : JobFields) : Except Nat Job := do
  let site ← accept 1 (siteOf f.site)
  let mode ← accept 3 (modeOf f.mode)
  let choice ← accept 4 (choiceOf mode site f.choice)
  let fNom ← accept 5 (inRange 1000000 1000000000 f.fNom.toNat)
  let requested ← accept 6 (inRange 1 4096 f.prescale.toNat)
  let length ← accept 7 (inRange 8 (greatestLength mode) f.length.toNat)
  let spectral ← accept 8 (boolOf f.spectral)
  let exponent ← accept 9 (exponentOf spectral f.exponent)
  let bands ← accept 10 (bandsOf spectral f.bands)
  let spots ← accept 11 (spotsOf spectral f.spots)
  let trigger ← accept 12 (triggerFieldOf f.trigger)
  let settle ← accept 13 (inRange 0 1000000 f.settle.toNat)
  let floorCorrection ← accept 14 (floorCorrectionOf mode f.floorCorrection)
  let limit ← accept 15 (limitOf f.limit)
  .ok
    { id := 0, site, hostTag := f.hostTag, mode, choice, fNom, prescale := usedPrescale fNom requested
      adjusted := decide (usedPrescale fNom requested ≠ requested), length, spectral, exponent, bands, spots, trigger
      settle, floorCorrection, limit, state := acceptedState trigger, channels := [] }

/-! ### The checks of a named limit entry (R57 checks 3 to 7, R145) -/

/-- The entry at an index within the extent, if defined (R134). -/
def entryAt (s : State) (index : Fin 64) : Option LimitSet :=
  if index.val < s.limits.extent then s.limits.entries[index] else none

/-- The band figures at or beyond a number of bands (R145). -/
def bandsBeyond (count : Nat) : List FigureName :=
  [.band0, .band1, .band2, .band3].drop count

/-- The spot figures at or beyond a number of spots (R145). -/
def spotsBeyond (count : Nat) : List FigureName :=
  [.spot0, .spot1, .spot2, .spot3].drop count

/-- Check 5: the entry's kind and the figures it checks suit the job (R136, R145). -/
def kindSuits (e : LimitSet) (spectral : Bool) (bands spots : Nat) : Bool :=
  !(decide (e.kind = .spectral) && !spectral) && !((bandsBeyond bands ++ spotsBeyond spots).any (isChecked e))

/-- Check 6: a LOT entry's tag is the current lot tag (R137, R145). -/
def scopeSuits (e : LimitSet) (currentLot : Nat) : Bool :=
  match e.lot with
  | none => true
  | some tag => decide (tag = currentLot)

/-- The first of checks 3 to 7 that fails, if any (R145). -/
def limitFault (s : State) (index : Fin 64) (spectral : Bool) (bands spots fNom : Nat) : Option Status :=
  if s.limits.extent ≤ index.val then some .limitRange
  else
    match s.limits.entries[index] with
    | none => some .limitAbsent
    | some e =>
      if !kindSuits e spectral bands spots then some .limitKind
      else if !scopeSuits e s.limits.currentLot then some .limitScope
      else if fNom < e.fMin ∨ e.fMax < fNom then some .limitFreq
      else none

/-- The first of checks 2 to 7 that a submission fails, if any (R57, R58). -/
def submissionFault (s : State) (j : Job) : Option Status :=
  if (jobAt s j.site).isSome then some .siteBusy
  else
    match j.limit with
    | none => none
    | some index => limitFault s index j.spectral j.bands.length j.spots.length j.fNom

/-! ### Acceptance (R61, R62) -/

/-- The job id counter advances by one, from 65,535 to 1 (R62). -/
def advanceId (id : Nat) : Nat :=
  if id = 65535 then 1 else id + 1

/-- The first value from `id` on, of so many more, that no live job holds (R62). -/
def freeIdFrom (live : List Nat) : Nat → Nat → Nat
  | 0, id => id
  | n + 1, id => if live.contains id then freeIdFrom live n (advanceId id) else id

/-- The id the next accepted job takes: at most sixteen are live (R62). -/
def assignedId (s : State) : Nat :=
  freeIdFrom ((liveJobs s).map (·.id)) 16 s.jobCounter

/-- The in-use count of a job's entry rises by one, when it names one (R61, R143). -/
def raiseInUse (j : Job) (s : State) : State :=
  match j.limit with
  | none => s
  | some index =>
    { s with limits := { s.limits with inUse := s.limits.inUse.set index (s.limits.inUse[index] + 1) } }

/-- An accepted job with its id: the counter, the in-use count, the job record and the queue entry (R61, R62). -/
def acceptJob (j : Job) (s : State) : State :=
  let g := groupOfSite j.site
  let s := raiseInUse j { s with jobCounter := advanceId j.id }
  let s := setJob j.site (some j) s
  setQueue g (queueOf s g ++ [.job j.id j.site]) s

/-- The acceptance reply (section 11.5). -/
def acceptanceReply (j : Job) : List Byte :=
  okReply (bytes16OfNat j.id ++ bytes16OfNat j.prescale ++ [byteOfBool j.adjusted, jobStateCode j.state])

/-- JOB_SUBMIT (R57, R61). -/
def serveJobSubmit (f : JobFields) (s : State) : List Byte × State :=
  match draftJob f with
  | .error number => (badField number, s)
  | .ok draft =>
    match submissionFault s draft with
    | some status => (refusal status, s)
    | none =>
      let j := { draft with id := assignedId s }
      (acceptanceReply j, followIdle (examine (groupOfSite j.site) (acceptJob j s)))

/-! ### JOB_STATUS (R76) -/

/-- The position of a job's entry in its group queue, the head being 1, or the absence mark (section 11.10). -/
def queuePositionByte (s : State) (j : Job) : Byte :=
  match (queueOf s (groupOfSite j.site)).findIdx? fun e => decide (e = .job j.id j.site) with
  | some i => byteOfNat (i + 1)
  | none => absentByte

/-- The position of a job's item in the analysis queue, the head being 1, or the absence mark (section 11.10). -/
def itemPositionByte (s : State) (j : Job) : Byte :=
  match s.analysisQueue.findIdx? fun item => item.job == j.id with
  | some i => byteOfNat (i + 1)
  | none => absentByte

/-- Whether a job has an entry in its group queue (R63). -/
def isWaiting : JobState → Bool
  | .held => true
  | .queued => true
  | _ => false

/-- The items of a JOB_STATUS reply (section 11.10). -/
def jobStatusBytes (s : State) (j : Job) : List Byte :=
  bytes16OfNat j.id ++ bytes32 j.hostTag ++ [modeCode j.mode, jobStateCode j.state] ++ bytes16OfNat j.prescale
  ++ [byteOfBool j.adjusted] ++ bytes32OfNat j.length
  ++ [triggerFieldCode j.trigger,
      (match j.limit with
        | some index => byteOfNat index.val
        | none => absentByte),
      if isWaiting j.state then groupCode (groupOfSite j.site) else absentByte,
      if isWaiting j.state then queuePositionByte s j else absentByte,
      (j.channels[0]?.map channelCode).getD absentByte,
      (j.channels[1]?.map channelCode).getD absentByte,
      if j.state = .analysisWait then itemPositionByte s j else absentByte]

/-- JOB_STATUS (R76). -/
def serveJobStatus (siteByte : Byte) (s : State) : List Byte × State :=
  match siteOf siteByte with
  | none => (badField 1, s)
  | some site =>
    match jobAt s site with
    | none => (refusal .noJob, s)
    | some j => (okReply (jobStatusBytes s j), s)

/-! ### JOB_CANCEL (R78) -/

/-- A job's entry leaves its group queue, the others keeping their order (R67). -/
def removeEntry (j : Job) (s : State) : State :=
  let g := groupOfSite j.site
  setQueue g ((queueOf s g).filter fun e => decide (e ≠ .job j.id j.site)) s

/-- The channel of a job's capture, or both with the pair unit, stops (R32). -/
def stopJobCapture (j : Job) (s : State) : State :=
  match j.channels with
  | [] => s
  | c :: _ => stopCapture c j.mode s

/-- What a cancel does besides ending the job (R78, R94, R95). -/
def cancelWork (j : Job) (s : State) : State :=
  match j.state with
  | .held => removeEntry j s
  | .queued => removeEntry j s
  | .settling => stopJobCapture j s
  | .capturing => stopJobCapture j s
  | .analysisWait => dropItem j.id s
  | .analysing => takeItem (abandonItem s)

/-- A live job is cancelled: its work stops, the job ends CANCELLED, and the dispatcher examines its head (R65, R78). -/
def cancelJob (j : Job) (s : State) : State :=
  followIdle (examine (groupOfSite j.site) (endJob j.id .cancelled (cancelWork j s)))

/-- JOB_CANCEL (R78). -/
def serveJobCancel (siteByte : Byte) (s : State) : List Byte × State :=
  match siteOf siteByte with
  | none => (badField 1, s)
  | some site =>
    match jobAt s site with
    | none => (refusal .noJob, s)
    | some j => (okReply (bytes16OfNat j.id ++ [jobStateCode j.state]), cancelJob j s)

end Sys2Proof.Machine
end

