-- ==== Sys2Proof/Machine/Limits.lean ====
section
/-! DEFINITION. The limit table's requests: LIMIT_WRITE (R138, R139), LIMIT_READ (R140), LIMIT_DELETE (R141), LIMIT_EXTENT
(R142), LIMIT_PROBE (R146) and LOT_OPEN (R144). -/

namespace Sys2Proof.Machine

/-! ### The fields of LIMIT_WRITE (R138) -/

/-- Field 4: a LOT entry's tag, from 1; none for a GLOBAL entry (R135, R138). The scope is its byte, 0 GLOBAL or 1 LOT. -/
def lotOf (isLot : Bool) (lot : Option (BitVec 32)) : Option (Option Nat) :=
  match isLot, lot with
  | true, some tag => if tag = 0 then none else some (some tag.toNat)
  | true, none => none
  | false, none => some none
  | false, some _ => none

/-- An offset limit within ±20,000,000 ppb (R135). -/
def offsetAccepted (x : Int) : Bool :=
  decide (-20000000 ≤ x) && decide (x ≤ 20000000)

/-- Field 7 (R135). -/
def offsetMinOf (x : Option (BitVec 32)) : Option (Option Int) :=
  match x with
  | none => some none
  | some b => if offsetAccepted b.toInt then some (some b.toInt) else none

/-- Field 8, judged with field 7 (R135, R138). -/
def offsetMaxOf (low : Option Int) (x : Option (BitVec 32)) : Option (Option Int) :=
  match x with
  | none => some none
  | some b => if offsetAccepted b.toInt && !belowLimit low b.toInt then some (some b.toInt) else none

/-- A maximum in fs (R135). -/
def maximumOfFs (x : Option (BitVec 32)) : Option Int :=
  x.map fun b => (b.toNat : Int)

/-- Fields 14 to 17: a band maximum, SPECTRAL kind only (R135, R138). -/
def bandMaximumOf (kind : LimitKind) (x : Option (BitVec 32)) : Option (Option Int) :=
  match kind, x with
  | .time, some _ => none
  | _, value => some (maximumOfFs value)

/-- Fields 18 to 21: a spot maximum from −20,000 to 0, SPECTRAL kind only (R135, R138). -/
def spotMaximumOf (kind : LimitKind) (x : Option (BitVec 16)) : Option (Option Int) :=
  match kind, x with
  | _, none => some none
  | .time, some _ => none
  | .spectral, some b => if -20000 ≤ b.toInt ∧ b.toInt ≤ 0 then some (some b.toInt) else none

/-- Field 13: at least one of the five time maxima is present (R135, R138). -/
def timeMaximaOf (f : LimitFields) : Option Unit :=
  if f.tieRms.isSome || f.tiePp.isSome || f.perRms.isSome || f.c2cRms.isSome || f.c2cPeak.isSome then some () else none

/-- Fields 25 to 38: the fail bins, or the number of the first of 16 or more (R135, R138). -/
def failBinsOf (bins : Vector Byte 14) : Except Nat (Vector Nat 14) :=
  match bins.toList.findIdx? fun b => decide (16 ≤ b.toNat) with
  | some i => .error (25 + i)
  | none => .ok (bins.map fun b => b.toNat)

/-- The index and limit set of a LIMIT_WRITE, or the number of the first field not accepted (R135, R138). -/
def draftLimit (f : LimitFields) : Except Nat (Fin 64 × LimitSet) := do
  let index ← accept 1 (limitIndexOf f.index)
  let kind ← accept 2 (limitKindOf f.kind)
  let isLot ← accept 3 (boolOf f.scope)
  let lot ← accept 4 (lotOf isLot f.lot)
  let fMin ← accept 5 (inRange 1000000 1000000000 f.fMin.toNat)
  let fMax ← accept 6 (inRange fMin 1000000000 f.fMax.toNat)
  let offsetMin ← accept 7 (offsetMinOf f.offsetMin)
  let offsetMax ← accept 8 (offsetMaxOf offsetMin f.offsetMax)
  accept 13 (timeMaximaOf f)
  let band0 ← accept 14 (bandMaximumOf kind f.band0)
  let band1 ← accept 15 (bandMaximumOf kind f.band1)
  let band2 ← accept 16 (bandMaximumOf kind f.band2)
  let band3 ← accept 17 (bandMaximumOf kind f.band3)
  let spot0 ← accept 18 (spotMaximumOf kind f.spot0)
  let spot1 ← accept 19 (spotMaximumOf kind f.spot1)
  let spot2 ← accept 20 (spotMaximumOf kind f.spot2)
  let spot3 ← accept 21 (spotMaximumOf kind f.spot3)
  let stalePolicy ← accept 22 (stalePolicyOf f.stale)
  let passBin ← accept 23 (inRange 0 15 f.passBin.toNat)
  let retestBin ← accept 24 (inRange 0 15 f.retestBin.toNat)
  let failBins ← failBinsOf f.failBins
  .ok (index,
    { kind, lot, fMin, fMax, offsetMin, offsetMax
      maxima := #v[maximumOfFs f.tieRms, maximumOfFs f.tiePp, maximumOfFs f.perRms, maximumOfFs f.c2cRms,
        maximumOfFs f.c2cPeak, band0, band1, band2, band3, spot0, spot1, spot2, spot3]
      stalePolicy, passBin, retestBin, failBins })

/-! ### Entries -/

/-- An entry of the table replaced. -/
def setEntry (index : Fin 64) (e : Option LimitSet) (s : State) : State :=
  { s with limits := { s.limits with entries := s.limits.entries.set index e } }

/-- The in-use count of an entry (R143). -/
def inUseOf (s : State) (index : Fin 64) : Nat :=
  s.limits.inUse[index]

/-- A limit set with its index, as the fields of section 11.7 carry it. -/
def limitFieldsOf (index : Fin 64) (e : LimitSet) : LimitFields :=
  let fs (i : Fin 13) : Option (BitVec 32) := e.maxima[i].map (BitVec.ofInt 32)
  let spot (i : Fin 13) : Option (BitVec 16) := e.maxima[i].map (BitVec.ofInt 16)
  { index := byteOfNat index.val, kind := limitKindCode e.kind, scope := byteOfBool e.lot.isSome
    lot := e.lot.map (BitVec.ofNat 32), fMin := BitVec.ofNat 32 e.fMin, fMax := BitVec.ofNat 32 e.fMax
    offsetMin := e.offsetMin.map (BitVec.ofInt 32), offsetMax := e.offsetMax.map (BitVec.ofInt 32)
    tieRms := fs 0, tiePp := fs 1, perRms := fs 2, c2cRms := fs 3, c2cPeak := fs 4
    band0 := fs 5, band1 := fs 6, band2 := fs 7, band3 := fs 8
    spot0 := spot 9, spot1 := spot 10, spot2 := spot 11, spot3 := spot 12
    stale := stalePolicyCode e.stalePolicy, passBin := byteOfNat e.passBin, retestBin := byteOfNat e.retestBin
    failBins := e.failBins.map byteOfNat }

/-! ### Requests -/

/-- LIMIT_WRITE (R138, R139). -/
def serveLimitWrite (f : LimitFields) (s : State) : List Byte × State :=
  match draftLimit f with
  | .error number => (badField number, s)
  | .ok (index, e) =>
    if s.limits.extent ≤ index.val then (refusal .limitRange, s)
    else if 0 < inUseOf s index then (refusal .limitInUse, s)
    else
      (okReply [byteOfNat index.val, byteOfBool (s.limits.entries[index]).isSome], setEntry index (some e) s)

/-- LIMIT_READ (R140, section 11.7). -/
def serveLimitRead (indexByte : Byte) (s : State) : List Byte × State :=
  match limitIndexOf indexByte with
  | none => (badField 1, s)
  | some index =>
    if s.limits.extent ≤ index.val then (refusal .limitRange, s)
    else
      match s.limits.entries[index] with
      | none => (refusal .limitAbsent, s)
      | some e => (okReply (byteOfNat (inUseOf s index) :: limitPayload (limitFieldsOf index e)), s)

/-- LIMIT_DELETE (R141). -/
def serveLimitDelete (indexByte : Byte) (s : State) : List Byte × State :=
  match limitIndexOf indexByte with
  | none => (badField 1, s)
  | some index =>
    if s.limits.extent ≤ index.val then (refusal .limitRange, s)
    else if (s.limits.entries[index]).isNone then (refusal .limitAbsent, s)
    else if 0 < inUseOf s index then (refusal .limitInUse, s)
    else (okReply [], setEntry index none s)

/-- The highest defined index (R142). -/
def highestDefined (s : State) : Option (Fin 64) :=
  (List.finRange 64).reverse.find? fun index => (s.limits.entries[index]).isSome

/-- LIMIT_EXTENT (R142). -/
def serveLimitExtent (extent : Byte) (s : State) : List Byte × State :=
  match inRange 1 64 extent.toNat with
  | none => (badField 1, s)
  | some e =>
    match (highestDefined s).filter fun index => decide (e ≤ index.val) with
    | some index => ([statusCode .extentBlocked, byteOfNat index.val], s)
    | none => (okReply [byteOfNat e], { s with limits := { s.limits with extent := e } })

/-- A count of bands or spots, from 0 to 4, and 0 when the job is not spectral (R146). -/
def countOf (spectral : Bool) (b : Byte) : Option Nat :=
  if b.toNat ≤ 4 ∧ (spectral = true ∨ b = 0) then some b.toNat else none

/-- The five values of a LIMIT_PROBE, or the number of the first field not accepted (R146). -/
def draftProbe (index spectral bands spots : Byte) (fNom : BitVec 32) : Except Nat (Fin 64 × Bool × Nat × Nat × Nat) := do
  let index ← accept 1 (limitIndexOf index)
  let spectral ← accept 2 (boolOf spectral)
  let bands ← accept 3 (countOf spectral bands)
  let spots ← accept 4 (countOf spectral spots)
  let fNom ← accept 5 (inRange 1000000 1000000000 fNom.toNat)
  .ok (index, spectral, bands, spots, fNom)

/-- LIMIT_PROBE (R146, section 11.4). -/
def serveLimitProbe (index spectral bands spots : Byte) (fNom : BitVec 32) (s : State) : List Byte × State :=
  match draftProbe index spectral bands spots fNom with
  | .error number => (badField number, s)
  | .ok (index, spectral, bands, spots, fNom) =>
    let outcome := ((limitFault s index spectral bands spots fNom).map statusCode).getD 0
    let count := if (entryAt s index).isSome then byteOfNat (inUseOf s index) else absentByte
    (okReply [outcome, count], s)

/-- LOT_OPEN (R144). -/
def serveLotOpen (lot : BitVec 32) (s : State) : List Byte × State :=
  if lot = 0 then (badField 1, s)
  else if !(liveJobs s).isEmpty then (refusal .lotBusy, s)
  else
    (okReply (bytes32 lot ++ bytes32OfNat s.limits.currentLot),
      { s with limits := { s.limits with currentLot := lot.toNat } })

end Sys2Proof.Machine
end

