-- ==== Sys2Proof/Machine/Notices.lean ====
section
/-! DEFINITION. The notice unit's requests NOTICE_ENABLE (R166) and NOTICE_CLEAR (R167), and the NOTICE it builds (R165,
R180). -/

namespace Sys2Proof.Machine

/-- The five enables of a NOTICE_ENABLE, or the number of the first field not accepted (R166, section 11.9). -/
def draftEnables (resultReady calDone refChange triggerTaken queueIdle : Byte) : Except Nat FlagSet := do
  let resultReady ← accept 1 (boolOf resultReady)
  let calDone ← accept 2 (boolOf calDone)
  let refChange ← accept 3 (boolOf refChange)
  let triggerTaken ← accept 4 (boolOf triggerTaken)
  let queueIdle ← accept 5 (boolOf queueIdle)
  .ok { resultReady, calDone, refChange, triggerTaken, queueIdle }

/-- The enables are replaced; notice due is set when one that was off is turned on while its flag is pending (R165, R166,
log 19). -/
def setEnables (enables : FlagSet) (n : Notices) : Notices :=
  { n with enables, due := n.due || anyFlag (flagsBoth n.flags (flagsLess enables n.enables)) }

/-- NOTICE_ENABLE (R166). -/
def serveNoticeEnable (resultReady calDone refChange triggerTaken queueIdle : Byte) (s : State) : List Byte × State :=
  match draftEnables resultReady calDone refChange triggerTaken queueIdle with
  | .error number => (badField number, s)
  | .ok enables =>
    (okReply [flagSetByte enables, flagSetByte s.notices.flags], { s with notices := setEnables enables s.notices })

/-- NOTICE_CLEAR (R167). -/
def serveNoticeClear (flags : Byte) (s : State) : List Byte × State :=
  match flagSetOf flags with
  | none => (badField 1, s)
  | some named =>
    let left := flagsLess s.notices.flags named
    (okReply [flagSetByte left], { s with notices := { s.notices with flags := left } })

/-- The flags a NOTICE taken now would carry (R165). -/
def noticeFlags (s : State) : FlagSet :=
  flagsBoth s.notices.flags s.notices.enables

/-- Notice due is cleared (R165). -/
def clearDue (s : State) : State :=
  { s with notices := { s.notices with due := false } }

end Sys2Proof.Machine
end

