-- ==== Sys2Proof/Machine/Timebase.lean ====
section
/-! DEFINITION. The timebase: the end of a frequency-check gate (R1, R3), the multiplier's reports (R2, R4), the lock and
the reference-loss event (R5, R6) and the temperature sample (R9). -/

namespace Sys2Proof.Machine

/-- Classifications of a gate (R1). -/
inductive GateClass where
  | empty
  | off
  | inTolerance
deriving DecidableEq, Repr

/-- A gate is classified by its edge count (R1). -/
def classifyGate (edges : Nat) : GateClass :=
  if edges = 0 then .empty
  else if 99950 ≤ edges ∧ edges ≤ 100050 then .inTolerance
  else .off

/-- Whether a gate classified IN is in-lock: the indication was LOCK when it began, and it holds no unlock mark (R1). -/
def gateInLock (t : Timebase) : Bool :=
  decide (t.gateBegan = .lock) && !t.gateMark

/-- The next gate begins from 0 with its mark clear (R1). -/
def newGate (t : Timebase) : Timebase :=
  { t with gateEdges := 0, gateMark := false, gateBegan := t.multiplier }

/-- The reference state and run after a gate (R3). LOCKED on a gate IN but not in-lock is not reachable; it stays (log 8). -/
def afterGate (state : RefState) (run : Nat) (gate : GateClass) (inLock : Bool) : RefState × Nat :=
  match gate with
  | .empty => (.absent, 0)
  | .off => (.outOfRange, 0)
  | .inTolerance =>
    match state with
    | .locked => (.locked, run)
    | .acquiring => if inLock then (if run + 1 = 4 then (.locked, 0) else (.acquiring, run + 1)) else (.acquiring, 0)
    | .absent => (.acquiring, if inLock then 1 else 0)
    | .outOfRange => (.acquiring, if inLock then 1 else 0)

/-- The order in which a reference loss reaches the channels: the free value's, then the rest (log 11). -/
def lossSequence (index : Nat) : List ChannelId :=
  Config.lossOrder index ++ [0, 1, 2, 3]

/-- The reference-loss event, the reference state having left LOCKED: captures end with REF_LOST, calibrations are lost, and
REF_CHANGE is raised; the counter holds because the state is not LOCKED (R6, R31, R52, R163). -/
def referenceLoss (s : State) : State :=
  let order := lossSequence s.freeIndex
  let s := { s with freeIndex := s.freeIndex + 1 }
  let s := order.foldl loseCapture s
  let s := [0, 1, 2, 3].foldl loseCalibration s
  followIdle (raise .refChange s)

/-- The lock event, the reference state having become LOCKED: the counter starts from 0, REF_CHANGE is raised, and both
dispatchers examine their heads (R5). -/
def lockEvent (s : State) : State :=
  let s := { s with timebase := { s.timebase with coarse := 0 } }
  followIdle (examineBoth (raise .refChange s))

/-- The gate in progress ends with the edge count given (R1, R3). -/
def endGate (edges : Nat) (s : State) : State :=
  let t := s.timebase
  let next := afterGate t.refState t.run (classifyGate edges) (gateInLock t)
  let s' := { s with timebase := { newGate t with refState := next.1, run := next.2 } }
  if t.refState = .locked ∧ next.1 ≠ .locked then referenceLoss s'
  else if t.refState ≠ .locked ∧ next.1 = .locked then lockEvent s'
  else s'

/-- A lock report (R2). -/
def reportLock (s : State) : State :=
  { s with timebase := { s.timebase with multiplier := .lock } }

/-- An unlock report: the indication and the unlock mark, and in LOCKED the move to ACQUIRING with run 0, a reference-loss
event (R2, R4). -/
def reportUnlock (s : State) : State :=
  let t := { s.timebase with multiplier := .unlock, gateMark := true }
  if t.refState = .locked then
    referenceLoss { s with timebase := { t with refState := .acquiring, run := 0 } }
  else { s with timebase := t }

/-- A sample within the range of the reading (R9, log 20). -/
def clampTemperature (quarterDegrees : Int) : Int :=
  max (-160) (min 600 quarterDegrees)

/-- The reading is replaced by a sample (R9). -/
def takeSample (quarterDegrees : Int) (s : State) : State :=
  { s with timebase := { s.timebase with temperature := clampTemperature quarterDegrees, sampleTaken := true } }

end Sys2Proof.Machine
end

