-- ==== Sys2Proof/Machine/Reset.lean ====
section
/-! DEFINITION. The resets: what RESET_REQUEST and LINK_BREAK leave of every block, and the part after POWER_ON (R11, R36,
R54, R80, R87, R113, R153, R169, R183 to R186). -/

namespace Sys2Proof.Machine

/-- A calibration record after a RESET_REQUEST or LINK_BREAK: RUNNING becomes UNCAL, any other is kept (R54). -/
def recordAfterReset : CalRecord → CalRecord
  | .running => .uncal
  | record => record

/-- The part after a RESET_REQUEST or LINK_BREAK, with the link interface given. The timebase, the configuration records and
the calibration records that are not RUNNING are kept (R11, R36, R54); the model's own fields are kept (log 26). -/
def resetBlocks (link : Link) (s : State) : State :=
  { s with
    channels := s.channels.map fun ch => Channel.afterReset ch.config
    pairs := { a := .idle, b := .idle }
    records := s.records.map recordAfterReset
    sections := { a := .free, b := .free }
    jobs := Vector.replicate 16 none
    jobCounter := 1
    queues := { a := [], b := [] }
    trigger := Trigger.afterReset s.trigger.lineLevel
    analysisQueue := []
    engine := .idle
    limits := LimitTable.afterReset
    results := Results.afterReset
    notices := Notices.afterReset
    link }

/-- A reset of cause RESET_REQUEST: the break detector goes on (R183, R184, R186). -/
def resetRequested (s : State) : State :=
  resetBlocks (Link.afterReset .betweenFrames s.link.detector s.link.lowPeriods .resetRequest) s

/-- 10 ms, in periods of the 25 MHz oscillator (R184, log 17). -/
def breakPeriods : Nat :=
  250000

/-- The transmitter as a break leaves it: a frame being sent is cut off at the end of the byte in progress (R184, R186). -/
def cutOff : Transmitter → Transmitter
  | .betweenFrames => .betweenFrames
  | .sending _ _ => .finishingByte
  | .finishingByte => .finishingByte

/-- A break is detected: with the detector ARMED it becomes SPENT, and the part resets with cause LINK_BREAK (R184). -/
def detectBreak (s : State) : State :=
  match s.link.detector with
  | .armed =>
    resetBlocks (Link.afterReset (cutOff s.link.transmitter) .spent (max s.link.lowPeriods breakPeriods) .linkBreak) s
  | .spent => s

/-- The receive line goes high: the low time starts from zero, and a SPENT detector becomes ARMED (R184). -/
def rearmDetector (s : State) : State :=
  setLink { s.link with detector := .armed, lowPeriods := 0 } s

/-- The receive line has been low for one more period (R184). -/
def countLowPeriod (s : State) : State :=
  let s := setLink { s.link with lowPeriods := s.link.lowPeriods + 1 } s
  if breakPeriods ≤ s.link.lowPeriods then detectBreak s else s

/-- The receive line in one period (R184). -/
def senseReceiveLine (level : Level) (s : State) : State :=
  match level with
  | .high => rearmDetector s
  | .low => countLowPeriod s

/-- The break detector at power-on: ARMED if the line is high, SPENT if it is low (R185). -/
def detectorAtPowerOn : Level → Detector
  | .high => .armed
  | .low => .spent

/-- The part after POWER_ON, with the levels of its lines and its first temperature sample, if taken (R11, R36, R54, R80,
R87, R113, R153, R169, R185, R186, log 10). -/
def powerOn (receiveLine triggerLine : Level) (sample : Option Int) (s : State) : State :=
  { State.reset with
    timebase := Timebase.powerOn (sample.map clampTemperature)
    trigger := Trigger.afterReset triggerLine
    link := Link.afterReset .betweenFrames (detectorAtPowerOn receiveLine) 0 .powerOn
    freeIndex := s.freeIndex
    pending := s.pending }

end Sys2Proof.Machine
end

