-- ==== Sys2Proof/Machine/Status.lean ====
section
/-! DEFINITION. The requests IDENTIFY (R181) and STATUS (R182), with the layout of section 11.10 and the absence marks of
R189. -/

namespace Sys2Proof.Machine

/-- The items of an IDENTIFY reply (R181, sections 11.3 and 11.10). -/
def identifyBytes (cause : ResetCause) : List Byte :=
  bytes16OfNat 0x0D4E ++ bytes16OfNat 0x1604 ++ [1, resetCauseCode cause, 16, 4, 2] ++ bytes32OfNat 1048576
  ++ [64, 4] ++ bytes16OfNat 1024

/-- IDENTIFY (R181). -/
def serveIdentify (s : State) : List Byte × State :=
  (okReply (identifyBytes s.link.resetCause), s)

/-- A list as its count byte and a fixed number of places, those beyond the count holding the absence mark (R189). -/
def placesBytes (capacity : Nat) (mark : List Byte) (places : List (List Byte)) : List Byte :=
  byteOfNat places.length :: ((places ++ List.replicate capacity mark).take capacity).flatten

/-- A job id, absent as 0 (R189). -/
def jobIdBytes (id : Option Nat) : List Byte :=
  bytes16OfNat (id.getD 0)

/-- The timebase items (R10). -/
def timebaseBytes (t : Timebase) : List Byte :=
  [refStateCode t.refState, byteOfNat t.run, multiplierCode t.multiplier] ++ bytes16OfInt t.temperature

/-- One channel's items (R35). -/
def channelBytes (ch : Channel) : List Byte :=
  [channelStateCode ch.state, selectorCode ch.selector, bankStateCode ch.bank0.state, bankStateCode ch.bank1.state]
  ++ jobIdBytes (ch.context.map (·.job)) ++ bytes16OfInt ch.config.threshold
  ++ [terminationCode ch.config.termination, edgeCode ch.config.edge]

/-- One channel's calibration items (R38, R50). -/
def recordStatusBytes (reading : Int) (record : CalRecord) : List Byte :=
  [calStateCode record, byteOfBool (isStale reading record)]

/-- One calibration section's items (R38). -/
def sectionBytes : CalSection → List Byte
  | .free => [0, absentByte, absentByte]
  | .busy ctx => [1, channelCode ctx.channel, passCode ctx.pass]

/-- One place of a group queue (R77). -/
def entryBytes (s : State) : Entry → List Byte
  | .job id site =>
    [0] ++ bytes16OfNat id ++ [siteCode site, ((jobAt s site).map fun j => jobStateCode j.state).getD absentByte]
  | .calibration c => [1] ++ jobIdBytes none ++ [channelCode c, absentByte]

/-- One group queue's items (R77). -/
def queueBytes (s : State) (queue : List Entry) : List Byte :=
  placesBytes 10 ([absentByte] ++ jobIdBytes none ++ [absentByte, absentByte]) (queue.map (entryBytes s))

/-- The trigger items (R86). -/
def triggerBytes (t : Trigger) : List Byte :=
  [triggerStateCode t.state, edgeCode t.polarity, levelCode t.lineLevel, byteOfBool t.qualification.isSome]

/-- The analysis items (R112). -/
def analysisBytes (s : State) : List Byte :=
  placesBytes 8 (jobIdBytes none) (s.analysisQueue.map fun item => jobIdBytes (some item.job))
  ++ [engineCode s.engine] ++ jobIdBytes ((engineItem s.engine).map (·.job))

/-- The place of one limit index, absent at or beyond the extent (R152, R189). -/
def limitPlace (t : LimitTable) (index : Fin 64) : List Byte :=
  if index.val < t.extent then [byteOfBool (t.entries[index]).isSome, byteOfNat (t.inUse[index])]
  else [absentByte, absentByte]

/-- The limit table's items (R152). -/
def limitBytes (t : LimitTable) : List Byte :=
  [byteOfNat t.extent] ++ bytes32OfNat t.currentLot ++ (List.finRange 64).flatMap (limitPlace t)

/-- One result slot's items (R168). -/
def slotBytes (slot : Slot) : List Byte :=
  [slotCode slot] ++ jobIdBytes ((slotRecord slot).map (·.job))

/-- The items of the result store and the notice unit (R168). -/
def resultBytes (s : State) : List Byte :=
  s.results.slots.toList.flatMap slotBytes ++ placesBytes 16 [absentByte] (s.results.completion.map fun site => [siteCode site])
  ++ [flagSetByte s.notices.flags, flagSetByte s.notices.enables, byteOfBool s.notices.idleHolds]

/-- The link items (R182). -/
def linkBytes (l : Link) : List Byte :=
  [byteOfNat l.hold.length, byteOfNat l.faults.length, l.noticeTag, resetCauseCode l.resetCause]

/-- The items of a STATUS reply, block by block (R182, section 11.10). -/
def statusBytes (s : State) : List Byte :=
  timebaseBytes s.timebase
  ++ s.channels.toList.flatMap channelBytes ++ [pairCode s.pairs.a, pairCode s.pairs.b]
  ++ s.records.toList.flatMap (recordStatusBytes s.timebase.temperature) ++ sectionBytes s.sections.a
  ++ sectionBytes s.sections.b
  ++ queueBytes s s.queues.a ++ queueBytes s s.queues.b ++ [byteOfNat (liveJobs s).length] ++ bytes16OfNat s.jobCounter
  ++ triggerBytes s.trigger ++ analysisBytes s ++ limitBytes s.limits ++ resultBytes s ++ linkBytes s.link

/-- STATUS (R182). -/
def serveStatus (s : State) : List Byte × State :=
  (okReply (statusBytes s), s)

end Sys2Proof.Machine
end

