-- ==== Sys2Proof/Machine/Trigger.lean ====
section
/-! DEFINITION. The trigger input: the pulse filter (R81), the taken trigger (R75, R82, R83), and the requests
TRIGGER_CONFIG, TRIGGER_ARM and TRIGGER_DISARM (R84, R85). -/

namespace Sys2Proof.Machine

/-- The level to which the active edge goes (section 5). -/
def activeLevel : Edge → Level
  | .rising => .high
  | .falling => .low

/-- The periods a line must hold its active level (R81). -/
def qualificationPeriods : Nat :=
  25

/-- A HELD job becomes QUEUED; any other is untouched (R75). -/
def releaseHeld (j : Job) : Job :=
  if j.state = .held then { j with state := .queued } else j

/-- The trigger is taken: every HELD job becomes QUEUED, the trigger is DISARMED, TRIGGER_TAKEN is raised and both
dispatchers examine their heads (R75, R83). -/
def takeTrigger (s : State) : State :=
  let s := { s with jobs := s.jobs.map (Option.map releaseHeld), trigger := { s.trigger with state := .disarmed } }
  followIdle (examineBoth (raise .triggerTaken s))

/-- The qualification completes: it is absent again, and the qualified edge meets the trigger state (R81, R82). -/
def completeQualification (s : State) : State :=
  let s' := { s with trigger := { s.trigger with qualification := none } }
  match s.trigger.state with
  | .armed => takeTrigger s'
  | .disarmed => s'

/-- The count of a qualification in progress reaches 25 (R82). -/
def qualifiedEdge (s : State) : State :=
  match s.trigger.qualification with
  | some _ => completeQualification s
  | none => s

/-- The line level changes: to the active level it starts a qualification, to the inactive level it abandons one (R81). -/
def changeLevel (level : Level) (s : State) : State :=
  let qualification := if level = activeLevel s.trigger.polarity then some 0 else none
  { s with trigger := { s.trigger with lineLevel := level, qualification } }

/-- The first level sensed after a reset is kept, and is no change (R87). -/
def senseFirst (level : Level) (s : State) : State :=
  { s with trigger := { s.trigger with lineLevel := level, sensed := true } }

/-- A period boundary at which the line stands where it stood: a qualification in progress counts it (R81). -/
def countPeriod (s : State) : State :=
  match s.trigger.qualification with
  | none => s
  | some n =>
    if n + 1 = qualificationPeriods then completeQualification s
    else { s with trigger := { s.trigger with qualification := some (n + 1) } }

/-- The filter senses the line at a period boundary (R81, R87). -/
def senseTrigger (level : Level) (s : State) : State :=
  if !s.trigger.sensed then senseFirst level s
  else if level = s.trigger.lineLevel then countPeriod s
  else changeLevel level s

/-- The filter senses the trigger line at a new level; the level it already holds is no change (R81). -/
def triggerLineChange (level : Level) (s : State) : State :=
  if s.trigger.sensed = true ∧ level = s.trigger.lineLevel then s else senseTrigger level s

/-- TRIGGER_CONFIG (R84). -/
def serveTriggerConfig (polarity : Byte) (s : State) : List Byte × State :=
  match edgeOf polarity with
  | none => (badField 1, s)
  | some p =>
    match s.trigger.state with
    | .armed => (refusal .triggerArmed, s)
    | .disarmed =>
      (okReply [edgeCode p],
        if p = s.trigger.polarity then s
        else { s with trigger := { s.trigger with polarity := p, qualification := none } })

/-- TRIGGER_ARM and TRIGGER_DISARM: the trigger state is set, and the reply carries the one found and the one now held
(R85). -/
def serveTriggerState (state : TriggerState) (s : State) : List Byte × State :=
  (okReply [triggerStateCode s.trigger.state, triggerStateCode state], { s with trigger := { s.trigger with state } })

end Sys2Proof.Machine
end

