-- ==== Sys2Proof/WellFormed.lean ====
section
/-! DEFINITION. Which commands are well formed: a frame's payload is at most 1,024 bytes (R171), and the lists of a
JOB_SUBMIT can be counted in one byte and fit such a payload (R187). Every other field is of its encoding's own type. -/

namespace Sys2Proof

/-- The length of a JOB_SUBMIT payload that carries these fields: the required length of R187. -/
def JobFields.payloadLength (f : JobFields) : Nat :=
  27 + (if f.exponent.isSome then 1 else 0) + (if f.limit.isSome then 1 else 0) + 8 * f.bands.length + 4 * f.spots.length

/-- The list counts fit their count bytes, and the payload fits a frame (R171, R187). -/
def JobFields.wellFormed (f : JobFields) : Bool :=
  decide (f.bands.length < 256) && decide (f.spots.length < 256) && decide (f.payloadLength ≤ 1024)

/-- A frame's payload is at most 1,024 bytes (R171). -/
def Frame.wellFormed (f : Frame) : Bool :=
  decide (f.payload.length ≤ 1024)

/-- The commands the outside world can send. -/
def Instr.wellFormed : Instr → Bool
  | .jobSubmit _ job => job.wellFormed
  | .frameReceived frame => frame.wellFormed
  | .linkCheckFault frame => frame.wellFormed
  | .powerOn _ _ _ => true
  | .gateEnd _ => true
  | .multiplierLockReport => true
  | .multiplierUnlockReport => true
  | .temperatureSample _ => true
  | .channelConfig _ _ _ _ _ => true
  | .calibrate _ _ => true
  | .calRead _ _ => true
  | .calSettlingEnd _ => true
  | .codeDensityHit _ _ => true
  | .histogramFull _ _ => true
  | .codeDensityPassEnd _ => true
  | .floorGateOpen _ => true
  | .floorTimestamp _ _ _ => true
  | .floorEdgeTimeout _ => true
  | .floorRecordFull _ _ _ => true
  | .floorComputationEnd _ => true
  | .settlingEnd _ => true
  | .comparatorEdge _ _ _ => true
  | .prescaledEdge _ _ _ => true
  | .edgeTimeout _ => true
  | .recordComplete _ _ _ => true
  | .pairRecordFull _ _ _ => true
  | .timePassEnd => true
  | .spectralPassEnd => true
  | .enginePost => true
  | .triggerLineChange _ => true
  | .qualifiedEdge => true
  | .triggerConfig _ _ => true
  | .triggerArm _ => true
  | .triggerDisarm _ => true
  | .jobStatus _ _ => true
  | .jobCancel _ _ => true
  | .limitExtent _ _ => true
  | .limitWrite _ _ => true
  | .limitRead _ _ => true
  | .limitDelete _ _ => true
  | .limitProbe _ _ _ _ _ _ => true
  | .lotOpen _ _ => true
  | .resultNext _ => true
  | .resultRead _ _ => true
  | .resultClear _ _ => true
  | .noticeEnable _ _ _ _ _ _ => true
  | .noticeClear _ _ => true
  | .identify _ => true
  | .status _ => true
  | .reset _ => true
  | .interByteGapExpiry => true
  | .transmitStart => true
  | .transmitFrameEnd => true
  | .linkBreak => true
  | .breakDetectorRearm => true
  | .byteReceived _ _ => true

end Sys2Proof
end

