-- ==== Sys2Proof/Machine/Link.lean ====
section
/-! DEFINITION. The link interface: the receiver (R170, R173, R174), the input hold and the fault list (R175), the request
server (R176 to R178, R183) and the transmitter (R179, R180). -/

namespace Sys2Proof.Machine

/-! ### The request server -/

/-- A request that passed the link checks goes to its owner: the reply payload and the part after it (R176). -/
def serveRequest (r : Request) (s : State) : List Byte × State :=
  match r with
  | .identify => serveIdentify s
  | .status => serveStatus s
  | .channelConfig channel threshold termination edge => serveChannelConfig channel threshold termination edge s
  | .calibrate channel => serveCalibrate channel s
  | .calRead channel => serveCalRead channel s
  | .limitExtent extent => serveLimitExtent extent s
  | .limitWrite entry => serveLimitWrite entry s
  | .limitRead index => serveLimitRead index s
  | .limitDelete index => serveLimitDelete index s
  | .limitProbe index spectral bands spots fNom => serveLimitProbe index spectral bands spots fNom s
  | .lotOpen lot => serveLotOpen lot s
  | .jobSubmit job => serveJobSubmit job s
  | .jobStatus site => serveJobStatus site s
  | .jobCancel site => serveJobCancel site s
  | .triggerConfig polarity => serveTriggerConfig polarity s
  | .triggerArm => serveTriggerState .armed s
  | .triggerDisarm => serveTriggerState .disarmed s
  | .resultNext => serveResultNext s
  | .resultRead site => serveResultRead site s
  | .resultClear site => serveResultClear site s
  | .noticeEnable resultReady calDone refChange triggerTaken queueIdle =>
    serveNoticeEnable resultReady calDone refChange triggerTaken queueIdle s
  | .noticeClear flags => serveNoticeClear flags s
  | .reset => (okReply [], setLink { s.link with hold := [] } s)

/-- A LINK_FAULT reply: the received tag, the status and the received kind (R175, R177). -/
def linkFaultReply (status : Status) (f : Frame) : Frame :=
  makeFrame kindLinkFault f.tag [statusCode status, f.kind]

/-- The reply of a request: its kind plus 128, its tag and the payload (R178). -/
def requestReply (f : Frame) (payload : List Byte) : Frame :=
  makeFrame (f.kind + 128) f.tag payload

/-- The link checks in order: the request of a frame that passes them, or the reply of the first that fails (R177). -/
def linkChecks (f : Frame) : Except Frame Request :=
  if !checkHolds f then .error (linkFaultReply .badCrc f)
  else if !isRequestKind f.kind then .error (linkFaultReply .unknownKind f)
  else
    match readRequest f.kind f.payload with
    | none => .error (requestReply f (refusal .badLength))
    | some r => .ok r

/-- The server state that holds the reply of a request: RESET_PENDING for RESET, REPLYING for any other (R176, R183). -/
def serverAfter (r : Request) (reply : Frame) : Server :=
  match r with
  | .reset => .resetPending reply
  | _ => .replying reply

/-- The server serves a frame: one event (R176). -/
def serveFrame (f : Frame) (s : State) : State :=
  match linkChecks f with
  | .error reply => setLink { s.link with server := .replying reply } s
  | .ok r =>
    let served := serveRequest r s
    setLink { served.2.link with server := serverAfter r (requestReply f served.1) } served.2

/-- The idle server takes the head of the hold and serves it, once the first temperature sample has been taken (R176,
R185). -/
def serverTakes (s : State) : State :=
  match s.link.server, s.link.hold with
  | .idle, f :: rest => if s.timebase.sampleTaken then serveFrame f (setLink { s.link with hold := rest } s) else s
  | _, _ => s

/-! ### The receiver and the input hold -/

/-- The places of the input hold, and of the fault list (R175). -/
def linkPlaces : Nat :=
  4

/-- A complete frame meets the input hold (R175); in RESET_PENDING it is discarded (R183). -/
def offerFrame (f : Frame) (s : State) : State :=
  match s.link.server with
  | .resetPending _ => s
  | _ =>
    if s.link.hold.length < linkPlaces then serverTakes (setLink { s.link with hold := s.link.hold ++ [f] } s)
    else if s.link.faults.length < linkPlaces then
      setLink { s.link with faults := s.link.faults ++ [linkFaultReply .busy f] } s
    else s

/-- The receiver enters a state. -/
def setReceiver (r : Receiver) (s : State) : State :=
  setLink { s.link with receiver := r } s

/-- A whole frame is complete at the receiver, which returns to HUNT; no frame is longer than 1,024 bytes (R173, R175, log
23). -/
def receiveFrame (f : Frame) (s : State) : State :=
  if f.wellFormed then offerFrame f (setReceiver .hunt s) else setReceiver .hunt s

/-- The length field of a partial frame (R171). -/
def lengthOf (got : List Byte) : Nat :=
  (word16 (got.getD 0 0) (got.getD 1 0)).toNat

/-- The frame whose bytes after the start byte are given (R171). -/
def frameOf (length : Nat) (got : List Byte) : Frame :=
  { kind := got.getD 2 0, tag := got.getD 3 0, payload := (got.drop 4).take length
    check := word16 (got.getD (4 + length) 0) (got.getD (5 + length) 0) }

/-- A header byte is kept: a length above 1,024 is discarded at its second byte, and the tag byte ends the header (R173). -/
def afterHeaderByte (got : List Byte) : Receiver :=
  if got.length = 2 ∧ 1024 < lengthOf got then .hunt
  else if got.length = 4 then (if lengthOf got = 0 then .check 0 got else .body (lengthOf got) got)
  else .header got

/-- A byte is delivered to the frame logic (R173). -/
def deliverByte (b : Byte) (s : State) : State :=
  match s.link.receiver with
  | .hunt => if b = 0x5A then setReceiver (.header []) s else s
  | .header got => setReceiver (afterHeaderByte (got ++ [b])) s
  | .body length got =>
    if (got ++ [b]).length = 4 + length then setReceiver (.check length (got ++ [b])) s
    else setReceiver (.body length (got ++ [b])) s
  | .check length got =>
    if (got ++ [b]).length = 6 + length then receiveFrame (frameOf length (got ++ [b])) s
    else setReceiver (.check length (got ++ [b])) s

/-- A byte's stop bit is sampled: high delivers it, low is a framing error, which discards a partial frame (R170). -/
def receiveByte (b : Byte) (stopBit : Level) (s : State) : State :=
  match stopBit with
  | .high => deliverByte b s
  | .low => setReceiver .hunt s

/-- The gap between two bytes of a frame exceeds 1 ms: the partial frame is discarded (R174). -/
def expireGap (s : State) : State :=
  setReceiver .hunt s

/-- Whether a frame fails a link check (R177). -/
def failsLinkCheck (f : Frame) : Bool :=
  match linkChecks f with
  | .error _ => true
  | .ok _ => false

/-! ### The transmitter -/

/-- The transmitter begins a frame. -/
def send (source : Source) (f : Frame) (s : State) : State :=
  setLink { s.link with transmitter := .sending source f } s

/-- The NOTICE of the flags given: the notice tag then advances by one (R180). -/
def sendNotice (flags : FlagSet) (s : State) : State :=
  let frame := makeFrame kindNotice s.link.noticeTag [flagSetByte flags]
  setLink { s.link with transmitter := .sending .notice frame, noticeTag := s.link.noticeTag + 1 } s

/-- The server reply, if one waits, is begun (R179). -/
def sendServerReply (s : State) : State :=
  match s.link.server with
  | .idle => s
  | .replying reply => send .serverReply reply s
  | .resetPending reply => send .serverReply reply s

/-- With no fault waiting: a NOTICE that is due, unless it would carry no flag, and otherwise the server reply (R179,
R180). -/
def chooseAfterFaults (s : State) : State :=
  if s.notices.due then
    if anyFlag (noticeFlags s) then sendNotice (noticeFlags s) (clearDue s) else sendServerReply (clearDue s)
  else sendServerReply s

/-- Between frames, the transmitter chooses what to send (R179). -/
def startTransmission (s : State) : State :=
  match s.link.transmitter with
  | .sending _ _ => s
  | .finishingByte => s
  | .betweenFrames =>
    match s.link.faults with
    | f :: rest => send .fault f (setLink { s.link with faults := rest } s)
    | [] => chooseAfterFaults s

/-- The server reply has been sent: the server takes the next frame or is IDLE; after a RESET reply the reset takes effect
(R176, R183). -/
def endServerReply (s : State) : State :=
  match s.link.server with
  | .idle => s
  | .replying _ => serverTakes (setLink { s.link with server := .idle } s)
  | .resetPending _ => resetRequested s

/-- The last byte of the frame being sent has gone (R176, R179), or the byte at which a break cut a frame off (R184, R186,
log 18). -/
def endTransmission (s : State) : State :=
  match s.link.transmitter with
  | .betweenFrames => s
  | .finishingByte => setLink { s.link with transmitter := .betweenFrames } s
  | .sending source _ =>
    let s := setLink { s.link with transmitter := .betweenFrames } s
    match source with
    | .serverReply => endServerReply s
    | .fault => s
    | .notice => s

end Sys2Proof.Machine
end

