-- ==== Sys2Proof/Machine/Events.lean ====
section
/-! DEFINITION. The meanings of the commands that are not requests: what the environment and the part's own blocks bring
about, one whole step each. A row that names one outcome of a wider event acts when the event has that outcome (log 2),
and an event that cannot arise in a state changes nothing (log 3). -/

namespace Sys2Proof.Machine

/-! ### Power, timebase and temperature -/

/-- POWER_ON (R185). -/
def execPowerOn (receiveLine triggerLine : Level) (sample : Option Int) (s : State) : Host.Outcome State Fault Refusal :=
  .next (powerOn receiveLine triggerLine sample s)

/-- GATE_END: so many edges after those already counted, the gate ends (R1, R3, log 7). -/
def execGateEnd (edges : Nat) (s : State) : Host.Outcome State Fault Refusal :=
  .next (endGate (s.timebase.gateEdges + edges) s)

/-- MULTIPLIER_LOCK_REPORT (R2). -/
def execMultiplierLockReport (s : State) : Host.Outcome State Fault Refusal :=
  .next (reportLock s)

/-- MULTIPLIER_UNLOCK_REPORT (R2, R4). -/
def execMultiplierUnlockReport (s : State) : Host.Outcome State Fault Refusal :=
  .next (reportUnlock s)

/-- TEMPERATURE_SAMPLE: the first since power-on also lets the server take a frame that waits (R9, R185). -/
def execTemperatureSample (quarterDegrees : Int) (s : State) : Host.Outcome State Fault Refusal :=
  .next (serverTakes (takeSample quarterDegrees s))

/-! ### Calibration -/

/-- CAL_SETTLING_END (R41). -/
def execCalSettlingEnd (group : Group) (s : State) : Host.Outcome State Fault Refusal :=
  .next (endCalSettling group s)

/-- CODE_DENSITY_HIT (R41). -/
def execCodeDensityHit (group : Group) (code : Byte) (s : State) : Host.Outcome State Fault Refusal :=
  .next (deliverCode group code s)

/-- Whether the next hit of a group's section is its last (R41). -/
def nextHitFills (g : Group) (s : State) : Bool :=
  match sectionContext s g with
  | some ctx => takesHits ctx && decide (ctx.hits + 1 = histogramSize)
  | none => false

/-- HISTOGRAM_FULL: the hit that brings the hit count to 65,536 (R41). -/
def execHistogramFull (group : Group) (code : Byte) (s : State) : Host.Outcome State Fault Refusal :=
  .next (if nextHitFills group s then deliverCode group code s else s)

/-- CODE_DENSITY_PASS_END (R42 to R44, R49). -/
def execCodeDensityPassEnd (group : Group) (s : State) : Host.Outcome State Fault Refusal :=
  .next (endCodeDensity group s)

/-- FLOOR_GATE_OPEN (R44). -/
def execFloorGateOpen (group : Group) (s : State) : Host.Outcome State Fault Refusal :=
  .next (openFloorGate group s)

/-- The context of a section whose floor pass takes edges (R44, R46). -/
def openFloor (g : Group) (s : State) : Option SectionContext :=
  (sectionContext s g).filter fun ctx => decide (ctx.pass = .floor) && ctx.deadline.isSome

/-- After so many ticks a REF_LOOP edge is timestamped for a group's floor pass (R44, R45). -/
def floorEdgeAfter (g : Group) (ticks : Nat) (code : Byte) (s : State) : State :=
  match openFloor g s with
  | some _ => if ticksCanPass s ticks then takeFloorEdge g code (passTicks ticks s) else s
  | none => s

/-- FLOOR_TIMESTAMP (R44, R45). -/
def execFloorTimestamp (group : Group) (ticks : Nat) (code : Byte) (s : State) : Host.Outcome State Fault Refusal :=
  .next (floorEdgeAfter group ticks code s)

/-- FLOOR_EDGE_TIMEOUT (R45). -/
def execFloorEdgeTimeout (group : Group) (s : State) : Host.Outcome State Fault Refusal :=
  .next (expireFloorTimeout group s)

/-- Whether a REF_LOOP edge after so many ticks gives the last floor timestamp (R46). -/
def endsFloorRecord (g : Group) (ticks : Nat) (code : Byte) (s : State) : Bool :=
  match openFloor g s with
  | some ctx =>
    decide (ctx.nextIndex + 1 = floorRecordLength) && floorIntervalPasses ctx (timestampOf (passTicks ticks s) ctx.table code)
  | none => false

/-- FLOOR_RECORD_FULL: the edge that gives the 65,536th floor timestamp (R46). -/
def execFloorRecordFull (group : Group) (ticks : Nat) (code : Byte) (s : State) : Host.Outcome State Fault Refusal :=
  .next (if endsFloorRecord group ticks code s then floorEdgeAfter group ticks code s else s)

/-- FLOOR_COMPUTATION_END (R46 to R49). -/
def execFloorComputationEnd (group : Group) (s : State) : Host.Outcome State Fault Refusal :=
  .next (endFloorComputation group s)

/-! ### Capture -/

/-- SETTLING_END (R21 to R23). -/
def execSettlingEnd (channel : ChannelId) (s : State) : Host.Outcome State Fault Refusal :=
  .next (endSettling channel s)

/-- COMPARATOR_EDGE (R16). -/
def execComparatorEdge (channel : ChannelId) (ticks : Nat) (code : Byte) (s : State) : Host.Outcome State Fault Refusal :=
  .next (edgeAfter channel ticks code s)

/-- PRESCALED_EDGE: a comparator edge that brings the prescaler count to P (R24, R25). -/
def execPrescaledEdge (channel : ChannelId) (ticks : Nat) (code : Byte) (s : State) : Host.Outcome State Fault Refusal :=
  .next (if isPrescaledEdge channel ticks s then edgeAfter channel ticks code s else s)

/-- EDGE_TIMEOUT (R26, R29, R30). -/
def execEdgeTimeout (channel : ChannelId) (s : State) : Host.Outcome State Fault Refusal :=
  .next (expireEdgeTimeout channel s)

/-- RECORD_COMPLETE: the prescaled edge that completes a SINGLE record (R27). -/
def execRecordComplete (channel : ChannelId) (ticks : Nat) (code : Byte) (s : State) : Host.Outcome State Fault Refusal :=
  .next (if endsRecord .single channel ticks code s then edgeAfter channel ticks code s else s)

/-- PAIR_RECORD_FULL: the prescaled edge that fills a paired channel's record (R28). -/
def execPairRecordFull (channel : ChannelId) (ticks : Nat) (code : Byte) (s : State) : Host.Outcome State Fault Refusal :=
  .next (if endsRecord .paired channel ticks code s then edgeAfter channel ticks code s else s)

/-! ### Analysis -/

/-- TIME_PASS_END (R92). -/
def execTimePassEnd (s : State) : Host.Outcome State Fault Refusal :=
  .next (endTimePass s)

/-- SPECTRAL_PASS_END (R131). -/
def execSpectralPassEnd (s : State) : Host.Outcome State Fault Refusal :=
  .next (endSpectralPass s)

/-- ENGINE_POST (R93). -/
def execEnginePost (s : State) : Host.Outcome State Fault Refusal :=
  .next (enginePost s)

/-! ### Trigger -/

/-- TRIGGER_LINE_CHANGE (R81). -/
def execTriggerLineChange (level : Level) (s : State) : Host.Outcome State Fault Refusal :=
  .next (triggerLineChange level s)

/-- QUALIFIED_EDGE (R81 to R83). -/
def execQualifiedEdge (s : State) : Host.Outcome State Fault Refusal :=
  .next (qualifiedEdge s)

/-! ### Link -/

/-- FRAME_RECEIVED (R173, R175). -/
def execFrameReceived (frame : Frame) (s : State) : Host.Outcome State Fault Refusal :=
  .next (receiveFrame frame s)

/-- INTER_BYTE_GAP_EXPIRY (R174). -/
def execInterByteGapExpiry (s : State) : Host.Outcome State Fault Refusal :=
  .next (expireGap s)

/-- LINK_CHECK_FAULT: a frame that fails a link check is complete at the receiver (R177). -/
def execLinkCheckFault (frame : Frame) (s : State) : Host.Outcome State Fault Refusal :=
  .next (if failsLinkCheck frame then receiveFrame frame s else s)

/-- TRANSMIT_START (R179, R180). -/
def execTransmitStart (s : State) : Host.Outcome State Fault Refusal :=
  .next (startTransmission s)

/-- TRANSMIT_FRAME_END (R176, R183). -/
def execTransmitFrameEnd (s : State) : Host.Outcome State Fault Refusal :=
  .next (endTransmission s)

/-- LINK_BREAK (R184). -/
def execLinkBreak (s : State) : Host.Outcome State Fault Refusal :=
  .next (detectBreak s)

/-- BREAK_DETECTOR_REARM (R184). -/
def execBreakDetectorRearm (s : State) : Host.Outcome State Fault Refusal :=
  .next (rearmDetector s)

/-- BYTE_RECEIVED (R170, R173). -/
def execByteReceived (byte : Byte) (stopBit : Level) (s : State) : Host.Outcome State Fault Refusal :=
  .next (receiveByte byte stopBit s)

end Sys2Proof.Machine
end

