-- ==== Sys2Proof/Machine/Requests.lean ====
section
/-! DEFINITION. The meanings of the request commands: the whole frame of the request arrives at the receiver (R175, R176,
log 1). An idle server serves it at once, by the request's own rule; a busy one leaves it in the input hold. -/

namespace Sys2Proof.Machine

/-- The whole frame of a request arrives at the receiver. -/
def receiveRequest (tag : Byte) (r : Request) (s : State) : Host.Outcome State Fault Refusal :=
  .next (receiveFrame (requestFrame tag r) s)

/-- CHANNEL_CONFIG (R13, R14). -/
def execChannelConfig (tag channel : Byte) (threshold : BitVec 16) (termination edge : Byte) (s : State) :
    Host.Outcome State Fault Refusal :=
  receiveRequest tag (.channelConfig channel threshold termination edge) s

/-- CALIBRATE (R39). -/
def execCalibrate (tag channel : Byte) (s : State) : Host.Outcome State Fault Refusal :=
  receiveRequest tag (.calibrate channel) s

/-- CAL_READ (R53). -/
def execCalRead (tag channel : Byte) (s : State) : Host.Outcome State Fault Refusal :=
  receiveRequest tag (.calRead channel) s

/-- TRIGGER_CONFIG (R84). -/
def execTriggerConfig (tag polarity : Byte) (s : State) : Host.Outcome State Fault Refusal :=
  receiveRequest tag (.triggerConfig polarity) s

/-- TRIGGER_ARM (R85). -/
def execTriggerArm (tag : Byte) (s : State) : Host.Outcome State Fault Refusal :=
  receiveRequest tag .triggerArm s

/-- TRIGGER_DISARM (R85). -/
def execTriggerDisarm (tag : Byte) (s : State) : Host.Outcome State Fault Refusal :=
  receiveRequest tag .triggerDisarm s

/-- JOB_SUBMIT (R57, R61). -/
def execJobSubmit (tag : Byte) (job : JobFields) (s : State) : Host.Outcome State Fault Refusal :=
  receiveRequest tag (.jobSubmit job) s

/-- JOB_STATUS (R76). -/
def execJobStatus (tag site : Byte) (s : State) : Host.Outcome State Fault Refusal :=
  receiveRequest tag (.jobStatus site) s

/-- JOB_CANCEL (R78). -/
def execJobCancel (tag site : Byte) (s : State) : Host.Outcome State Fault Refusal :=
  receiveRequest tag (.jobCancel site) s

/-- LIMIT_EXTENT (R142). -/
def execLimitExtent (tag extent : Byte) (s : State) : Host.Outcome State Fault Refusal :=
  receiveRequest tag (.limitExtent extent) s

/-- LIMIT_WRITE (R138, R139). -/
def execLimitWrite (tag : Byte) (entry : LimitFields) (s : State) : Host.Outcome State Fault Refusal :=
  receiveRequest tag (.limitWrite entry) s

/-- LIMIT_READ (R140). -/
def execLimitRead (tag index : Byte) (s : State) : Host.Outcome State Fault Refusal :=
  receiveRequest tag (.limitRead index) s

/-- LIMIT_DELETE (R141). -/
def execLimitDelete (tag index : Byte) (s : State) : Host.Outcome State Fault Refusal :=
  receiveRequest tag (.limitDelete index) s

/-- LIMIT_PROBE (R146). -/
def execLimitProbe (tag index spectral bands spots : Byte) (fNom : BitVec 32) (s : State) :
    Host.Outcome State Fault Refusal :=
  receiveRequest tag (.limitProbe index spectral bands spots fNom) s

/-- LOT_OPEN (R144). -/
def execLotOpen (tag : Byte) (lot : BitVec 32) (s : State) : Host.Outcome State Fault Refusal :=
  receiveRequest tag (.lotOpen lot) s

/-- RESULT_NEXT (R158). -/
def execResultNext (tag : Byte) (s : State) : Host.Outcome State Fault Refusal :=
  receiveRequest tag .resultNext s

/-- RESULT_READ (R159). -/
def execResultRead (tag site : Byte) (s : State) : Host.Outcome State Fault Refusal :=
  receiveRequest tag (.resultRead site) s

/-- RESULT_CLEAR (R160). -/
def execResultClear (tag site : Byte) (s : State) : Host.Outcome State Fault Refusal :=
  receiveRequest tag (.resultClear site) s

/-- NOTICE_ENABLE (R166). -/
def execNoticeEnable (tag resultReady calDone refChange triggerTaken queueIdle : Byte) (s : State) :
    Host.Outcome State Fault Refusal :=
  receiveRequest tag (.noticeEnable resultReady calDone refChange triggerTaken queueIdle) s

/-- NOTICE_CLEAR (R167). -/
def execNoticeClear (tag flags : Byte) (s : State) : Host.Outcome State Fault Refusal :=
  receiveRequest tag (.noticeClear flags) s

/-- IDENTIFY (R181). -/
def execIdentify (tag : Byte) (s : State) : Host.Outcome State Fault Refusal :=
  receiveRequest tag .identify s

/-- STATUS (R182). -/
def execStatus (tag : Byte) (s : State) : Host.Outcome State Fault Refusal :=
  receiveRequest tag .status s

/-- RESET (R183). -/
def execReset (tag : Byte) (s : State) : Host.Outcome State Fault Refusal :=
  receiveRequest tag .reset s

end Sys2Proof.Machine
end

