-- ==== Sys2Proof/Machine/Dispatch.lean ====
section
/-! DEFINITION. The effect of each command, one arm per row of the table. -/

namespace Sys2Proof.Machine

def exec (i : Instr) (s : State) : Host.Outcome State Fault Refusal :=
  match i with
  | .powerOn receiveLine triggerLine sample => Sys2Proof.Machine.execPowerOn receiveLine triggerLine sample s
  | .gateEnd edges => Sys2Proof.Machine.execGateEnd edges s
  | .multiplierLockReport => Sys2Proof.Machine.execMultiplierLockReport s
  | .multiplierUnlockReport => Sys2Proof.Machine.execMultiplierUnlockReport s
  | .temperatureSample quarterDegrees => Sys2Proof.Machine.execTemperatureSample quarterDegrees s
  | .channelConfig tag channel threshold termination edge => Sys2Proof.Machine.execChannelConfig tag channel threshold termination edge s
  | .calibrate tag channel => Sys2Proof.Machine.execCalibrate tag channel s
  | .calRead tag channel => Sys2Proof.Machine.execCalRead tag channel s
  | .calSettlingEnd group => Sys2Proof.Machine.execCalSettlingEnd group s
  | .codeDensityHit group code => Sys2Proof.Machine.execCodeDensityHit group code s
  | .histogramFull group code => Sys2Proof.Machine.execHistogramFull group code s
  | .codeDensityPassEnd group => Sys2Proof.Machine.execCodeDensityPassEnd group s
  | .floorGateOpen group => Sys2Proof.Machine.execFloorGateOpen group s
  | .floorTimestamp group ticks code => Sys2Proof.Machine.execFloorTimestamp group ticks code s
  | .floorEdgeTimeout group => Sys2Proof.Machine.execFloorEdgeTimeout group s
  | .floorRecordFull group ticks code => Sys2Proof.Machine.execFloorRecordFull group ticks code s
  | .floorComputationEnd group => Sys2Proof.Machine.execFloorComputationEnd group s
  | .settlingEnd channel => Sys2Proof.Machine.execSettlingEnd channel s
  | .comparatorEdge channel ticks code => Sys2Proof.Machine.execComparatorEdge channel ticks code s
  | .prescaledEdge channel ticks code => Sys2Proof.Machine.execPrescaledEdge channel ticks code s
  | .edgeTimeout channel => Sys2Proof.Machine.execEdgeTimeout channel s
  | .recordComplete channel ticks code => Sys2Proof.Machine.execRecordComplete channel ticks code s
  | .pairRecordFull channel ticks code => Sys2Proof.Machine.execPairRecordFull channel ticks code s
  | .timePassEnd => Sys2Proof.Machine.execTimePassEnd s
  | .spectralPassEnd => Sys2Proof.Machine.execSpectralPassEnd s
  | .enginePost => Sys2Proof.Machine.execEnginePost s
  | .triggerLineChange level => Sys2Proof.Machine.execTriggerLineChange level s
  | .qualifiedEdge => Sys2Proof.Machine.execQualifiedEdge s
  | .triggerConfig tag polarity => Sys2Proof.Machine.execTriggerConfig tag polarity s
  | .triggerArm tag => Sys2Proof.Machine.execTriggerArm tag s
  | .triggerDisarm tag => Sys2Proof.Machine.execTriggerDisarm tag s
  | .jobSubmit tag job => Sys2Proof.Machine.execJobSubmit tag job s
  | .jobStatus tag site => Sys2Proof.Machine.execJobStatus tag site s
  | .jobCancel tag site => Sys2Proof.Machine.execJobCancel tag site s
  | .limitExtent tag extent => Sys2Proof.Machine.execLimitExtent tag extent s
  | .limitWrite tag entry => Sys2Proof.Machine.execLimitWrite tag entry s
  | .limitRead tag index => Sys2Proof.Machine.execLimitRead tag index s
  | .limitDelete tag index => Sys2Proof.Machine.execLimitDelete tag index s
  | .limitProbe tag index spectral bands spots fNom => Sys2Proof.Machine.execLimitProbe tag index spectral bands spots fNom s
  | .lotOpen tag lot => Sys2Proof.Machine.execLotOpen tag lot s
  | .resultNext tag => Sys2Proof.Machine.execResultNext tag s
  | .resultRead tag site => Sys2Proof.Machine.execResultRead tag site s
  | .resultClear tag site => Sys2Proof.Machine.execResultClear tag site s
  | .noticeEnable tag resultReady calDone refChange triggerTaken queueIdle => Sys2Proof.Machine.execNoticeEnable tag resultReady calDone refChange triggerTaken queueIdle s
  | .noticeClear tag flags => Sys2Proof.Machine.execNoticeClear tag flags s
  | .identify tag => Sys2Proof.Machine.execIdentify tag s
  | .status tag => Sys2Proof.Machine.execStatus tag s
  | .reset tag => Sys2Proof.Machine.execReset tag s
  | .frameReceived frame => Sys2Proof.Machine.execFrameReceived frame s
  | .interByteGapExpiry => Sys2Proof.Machine.execInterByteGapExpiry s
  | .linkCheckFault frame => Sys2Proof.Machine.execLinkCheckFault frame s
  | .transmitStart => Sys2Proof.Machine.execTransmitStart s
  | .transmitFrameEnd => Sys2Proof.Machine.execTransmitFrameEnd s
  | .linkBreak => Sys2Proof.Machine.execLinkBreak s
  | .breakDetectorRearm => Sys2Proof.Machine.execBreakDetectorRearm s
  | .byteReceived byte stopBit => Sys2Proof.Machine.execByteReceived byte stopBit s

end Sys2Proof.Machine
end

