-- ==== Sys2Proof/Machine/Idle.lean ====
section
/-! DEFINITION. What the part does when no command waits: the one event of its own clocks and blocks that a free value
names (log 5), the free value then being the next one. -/

namespace Sys2Proof.Machine

/-- One coarse tick passes, unless an event is due on the present tick (R7, log 4). -/
def idleTick (s : State) : State :=
  if ticksCanPass s 1 then passTicks 1 s else s

/-- Whether an event of a channel is due on the present tick (R7, log 4). -/
def dueNow (c : ChannelId) (s : State) : Bool :=
  counterRuns s && decide (dueTick s c = some s.timebase.coarse)

/-- The timed event a calibration pass awaits (R41, R44, R45). -/
def passEvent (g : Group) (s : State) : State :=
  match sectionContext s g with
  | none => s
  | some ctx =>
    match ctx.pass, ctx.settled with
    | .codeDensity, _ => endCalSettling g s
    | .floor, false => openFloorGate g s
    | .floor, true => expireFloorTimeout g s

/-- The timed event a channel awaits is taken (R21, R26). -/
def channelEvent (c : ChannelId) (s : State) : State :=
  match (channelOfState s c).state with
  | .idle => s
  | .settling => endSettling c s
  | .capturing => expireEdgeTimeout c s
  | .calibrating => passEvent (groupOfChannel c) s

/-- The timed event of a channel that falls on the present tick is taken. -/
def idleDue (c : ChannelId) (s : State) : State :=
  if dueNow c s then channelEvent c s else s

/-- A period of the 25 MHz oscillator: both lines are sensed (R81, R184). -/
def idlePeriod (triggerLine receiveLine : Level) (s : State) : State :=
  senseReceiveLine receiveLine (senseTrigger triggerLine s)

/-- A segment of the spectral pass that is not its last is finished (R114). -/
def idleSegment (s : State) : State :=
  if 1 < segmentsLeft s then finishSegments 1 s else s

/-- One more reference edge falls in the gate in progress (R1). -/
def countEdge (s : State) : State :=
  { s with timebase := { s.timebase with gateEdges := s.timebase.gateEdges + 1 } }

/-- An event of the part's own clocks and blocks. -/
def idleEvent (e : IdleEvent) (s : State) : State :=
  match e with
  | .referenceEdge => countEdge s
  | .coarseTick => idleTick s
  | .channelDue c => idleDue c s
  | .internalPeriod triggerLine receiveLine => idlePeriod triggerLine receiveLine s
  | .segmentEnd => idleSegment s

/-- The part with no command waiting (log 5). -/
def idle (s : State) : State :=
  idleEvent (Config.idleEvent s.freeIndex) { s with freeIndex := s.freeIndex + 1 }

end Sys2Proof.Machine
end

