-- ==== Sys2Proof/Safety.lean ====
section
/-! DEFINITION. The predicates and the shorthands that the statements about the part are made of. -/

namespace Sys2Proof.Machine

/-! ### Requests -/

/-- The tag and the request that a request command brings, if it is one (log 1). -/
def requestOf : Instr → Option (Byte × Request)
  | .powerOn _ _ _ => none
  | .gateEnd _ => none
  | .multiplierLockReport => none
  | .multiplierUnlockReport => none
  | .temperatureSample _ => none
  | .channelConfig tag channel threshold termination edge => some (tag, .channelConfig channel threshold termination edge)
  | .calibrate tag channel => some (tag, .calibrate channel)
  | .calRead tag channel => some (tag, .calRead channel)
  | .calSettlingEnd _ => none
  | .codeDensityHit _ _ => none
  | .histogramFull _ _ => none
  | .codeDensityPassEnd _ => none
  | .floorGateOpen _ => none
  | .floorTimestamp _ _ _ => none
  | .floorEdgeTimeout _ => none
  | .floorRecordFull _ _ _ => none
  | .floorComputationEnd _ => none
  | .settlingEnd _ => none
  | .comparatorEdge _ _ _ => none
  | .prescaledEdge _ _ _ => none
  | .edgeTimeout _ => none
  | .recordComplete _ _ _ => none
  | .pairRecordFull _ _ _ => none
  | .timePassEnd => none
  | .spectralPassEnd => none
  | .enginePost => none
  | .triggerLineChange _ => none
  | .qualifiedEdge => none
  | .triggerConfig tag polarity => some (tag, .triggerConfig polarity)
  | .triggerArm tag => some (tag, .triggerArm)
  | .triggerDisarm tag => some (tag, .triggerDisarm)
  | .jobSubmit tag job => some (tag, .jobSubmit job)
  | .jobStatus tag site => some (tag, .jobStatus site)
  | .jobCancel tag site => some (tag, .jobCancel site)
  | .limitExtent tag extent => some (tag, .limitExtent extent)
  | .limitWrite tag entry => some (tag, .limitWrite entry)
  | .limitRead tag index => some (tag, .limitRead index)
  | .limitDelete tag index => some (tag, .limitDelete index)
  | .limitProbe tag index spectral bands spots fNom => some (tag, .limitProbe index spectral bands spots fNom)
  | .lotOpen tag lot => some (tag, .lotOpen lot)
  | .resultNext tag => some (tag, .resultNext)
  | .resultRead tag site => some (tag, .resultRead site)
  | .resultClear tag site => some (tag, .resultClear site)
  | .noticeEnable tag resultReady calDone refChange triggerTaken queueIdle =>
    some (tag, .noticeEnable resultReady calDone refChange triggerTaken queueIdle)
  | .noticeClear tag flags => some (tag, .noticeClear flags)
  | .identify tag => some (tag, .identify)
  | .status tag => some (tag, .status)
  | .reset tag => some (tag, .reset)
  | .frameReceived _ => none
  | .interByteGapExpiry => none
  | .linkCheckFault _ => none
  | .transmitStart => none
  | .transmitFrameEnd => none
  | .linkBreak => none
  | .breakDetectorRearm => none
  | .byteReceived _ _ => none

/-- A frame that completes now is served at once: the server is IDLE, no frame is held, and the first temperature sample
has been taken (R175, R176, R185). -/
def Ready (s : State) : Prop :=
  s.link.server = .idle ∧ s.link.hold = [] ∧ s.timebase.sampleTaken = true

/-- The part once a request has been answered: the receiver is in HUNT, and the server holds the reply of the kind, tag and
payload given (R176, R178). -/
def answered (kind tag : Byte) (payload : List Byte) (s : State) : State :=
  { s with link := { s.link with receiver := .hunt, server := .replying (makeFrame kind tag payload) } }

/-! ### Coarse time -/

/-- So many coarse ticks can pass now: the counter runs and no event due earlier is passed over (R7, log 4). -/
def TicksPass (s : State) (ticks : Nat) : Prop :=
  s.timebase.refState = .locked ∧ ticksCanPass s ticks = true

/-- The coarse counter at the count given. -/
def atTick (t : Tick) (s : State) : State :=
  { s with timebase := { s.timebase with coarse := t } }

/-- So many coarse ticks later. -/
def ticksLater (ticks : Nat) (s : State) : State :=
  atTick (s.timebase.coarse + BitVec.ofNat 36 ticks) s

/-! ### Channels and sections -/

/-- A channel has an open gate and takes edges for the capture given (R22, R26). -/
def Captures (s : State) (c : ChannelId) (ctx : CaptureContext) : Prop :=
  (channelOfState s c).state = .capturing ∧ (channelOfState s c).context = some ctx ∧ ctx.deadline.isSome = true

/-- A group's section is BUSY with the working context given, on a channel of the group that is CALIBRATING (R33, R38). -/
def Calibrates (s : State) (g : Group) (ctx : SectionContext) : Prop :=
  sectionOf s g = .busy ctx ∧ groupOfChannel ctx.channel = g ∧ (channelOfState s ctx.channel).state = .calibrating

/-! ### Invariants -/

/-- What a channel's state says of its context and of its group's section: a context exactly while it is SETTLING or
CAPTURING, and the group's section exactly while it is CALIBRATING, its record then RUNNING (R18, R33, R38). -/
def ChannelFits (s : State) (c : ChannelId) : Prop :=
  ((channelOfState s c).context.isSome = true ↔
      (channelOfState s c).state = .settling ∨ (channelOfState s c).state = .capturing) ∧
  ((channelOfState s c).state = .calibrating ↔
      ∃ ctx, sectionOf s (groupOfChannel c) = .busy ctx ∧ ctx.channel = c) ∧
  ((channelOfState s c).state = .calibrating ↔ recordOf s c = .running)

/-- Every channel fits, a BUSY section serves a channel of its group, and a calibration entry waits in the queue of its
channel's group (R38, R66). -/
def ChannelsFit (s : State) : Prop :=
  (∀ c, ChannelFits s c) ∧ (∀ g ctx, sectionOf s g = .busy ctx → groupOfChannel ctx.channel = g) ∧
  ∀ g c, Entry.calibration c ∈ queueOf s g → groupOfChannel c = g

/-- What the loss of the reference leaves: no channel SETTLING, CAPTURING or CALIBRATING, no section BUSY, and no record
VALID (R31, R52). -/
def LostReferenceStopsWork (s : State) : Prop :=
  s.timebase.refState ≠ .locked →
    ∀ c, (channelOfState s c).state = .idle ∧ sectionOf s (groupOfChannel c) = .free ∧ isValid (recordOf s c) = false

/-- The completion list is the sites whose slot is NEW, each once (R156). -/
def CompletionExact (s : State) : Prop :=
  s.results.completion.Nodup ∧ ∀ site, site ∈ s.results.completion ↔ isNew (slotAt s site) = true

/-- Each live job's record names the site it is kept for (R58, R61). -/
def JobsAtHome (s : State) : Prop :=
  ∀ site j, jobAt s site = some j → j.site = site

/-- Each entry's in-use count is the number of live jobs that name it (R143). -/
def InUseExact (s : State) : Prop :=
  JobsAtHome s ∧ ∀ index : Fin 64, inUseOf s index = (liveJobs s).countP fun j => decide (j.limit = some index)

/-- The live ids are distinct and the counter stands within its range (R62). -/
def IdsDistinct (s : State) : Prop :=
  JobsAtHome s ∧ ((liveJobs s).map (·.id)).Nodup ∧ 1 ≤ s.jobCounter ∧ s.jobCounter ≤ 65535

/-- The input hold and the fault list hold at most four each (R175). -/
def LinkWithinPlaces (s : State) : Prop :=
  s.link.hold.length ≤ 4 ∧ s.link.faults.length ≤ 4

/-- The notice unit has followed the idle condition (R164). -/
def IdleFollowed (s : State) : Prop :=
  s.notices.idleHolds = idleCondition s

/-- Every limit entry at or beyond the extent is undefined, and every entry in use is defined (R134, R143). -/
def LimitsFit (s : State) : Prop :=
  1 ≤ s.limits.extent ∧ s.limits.extent ≤ 64 ∧
  ∀ index : Fin 64, (s.limits.extent ≤ index.val → s.limits.entries[index] = none) ∧
    (0 < inUseOf s index → (s.limits.entries[index]).isSome = true)

/-! ### The work of the live jobs -/

/-- A named channel is of the job's group, and the channels a job was dispatched to are one channel of its group or both,
and none before its dispatch (R56, R63, R73). -/
def JobsSuit (s : State) : Prop :=
  ∀ site j, jobAt s site = some j →
    (∀ c, j.choice = some c → groupOfChannel c = groupOfSite site) ∧
    if j.state = .held ∨ j.state = .queued then j.channels = []
    else match j.mode with
      | .single => ∃ c, groupOfChannel c = groupOfSite site ∧ j.channels = [c]
      | .paired => j.channels = [lowChannel (groupOfSite site), highChannel (groupOfSite site)]

/-- The job entries of a group queue are the HELD and QUEUED jobs of its group, and no entry stands twice (R63, R66). -/
def QueuesExact (s : State) : Prop :=
  ∀ g, (queueOf s g).Nodup ∧ ∀ id site, Entry.job id site ∈ queueOf s g ↔
    groupOfSite site = g ∧ ∃ j, jobAt s site = some j ∧ j.id = id ∧ (j.state = .held ∨ j.state = .queued)

/-- The capture contexts are those of the SETTLING and CAPTURING jobs, one on each channel the job was dispatched to, the
channel being in the job's state (R18, R20, R63). -/
def CapturesExact (s : State) : Prop :=
  (∀ c ctx, (channelOfState s c).context = some ctx → ∃ j, jobAt s ctx.site = some j ∧ j.id = ctx.job ∧ j.mode = ctx.mode ∧
    c ∈ j.channels ∧ (j.state = .settling ∧ (channelOfState s c).state = .settling ∨
      j.state = .capturing ∧ (channelOfState s c).state = .capturing)) ∧
  ∀ site j c, jobAt s site = some j → j.state = .settling ∨ j.state = .capturing → c ∈ j.channels →
    ∃ ctx, (channelOfState s c).context = some ctx ∧ ctx.job = j.id ∧ ctx.site = site

/-- A pair unit at work serves the one PAIRED job whose contexts both channels of its group hold, in its own state, and has
the full report of the channel whose edge timeout has stopped; with the pair unit IDLE no context of the group is PAIRED
(R23, R28). -/
def PairsExact (s : State) : Prop :=
  ∀ g c, groupOfChannel c = g →
    match pairOf s g with
    | .idle => ∀ ctx, (channelOfState s c).context = some ctx → ctx.mode = .single
    | .settling job low high => ¬(low = true ∧ high = true) ∧ (channelOfState s c).state = .settling ∧
        ∃ ctx, (channelOfState s c).context = some ctx ∧ ctx.mode = .paired ∧ ctx.job = job
    | .capturing job low high => ¬(low = true ∧ high = true) ∧ (channelOfState s c).state = .capturing ∧
        ∃ ctx, (channelOfState s c).context = some ctx ∧ ctx.mode = .paired ∧ ctx.job = job ∧
          (ctx.deadline = none ↔ (if c = lowChannel g then low else high) = true)

/-- The analysis items in the part: the engine's, and those of the analysis queue (R90, R91). -/
def itemsHeld (s : State) : List Item :=
  (engineItem s.engine).toList ++ s.analysisQueue

/-- The banks an analysis item holds (R88). -/
def banksHeld (item : Item) : List (ChannelId × Fin 2) :=
  (item.first :: item.second.toList).map fun leg => (leg.channel, leg.bank)

/-- The jobs in ANALYSIS_WAIT are those with an item in the analysis queue, the one ANALYSING that of the engine's item, and
no job has two items (R63, R89, R91). -/
def ItemsExact (s : State) : Prop :=
  ((itemsHeld s).map (·.job)).Nodup ∧ ∀ id,
    ((∃ item ∈ s.analysisQueue, item.job = id) ↔ ∃ j ∈ liveJobs s, j.id = id ∧ j.state = .analysisWait) ∧
    ((∃ item, engineItem s.engine = some item ∧ item.job = id) ↔ ∃ j ∈ liveJobs s, j.id = id ∧ j.state = .analysing)

/-- A FILLING bank is the one of its channel's capture context; a FULL bank is held by exactly one analysis item, once; a
FREE bank is empty (R19, R88, R89). -/
def BanksExact (s : State) : Prop :=
  ((itemsHeld s).flatMap banksHeld).Nodup ∧ ∀ c b,
    ((bankOf (channelOfState s c) b).state = .filling ↔ ∃ ctx, (channelOfState s c).context = some ctx ∧ ctx.bank = b) ∧
    ((bankOf (channelOfState s c) b).state = .full ↔ ∃ item ∈ itemsHeld s, (c, b) ∈ banksHeld item) ∧
    ((bankOf (channelOfState s c) b).state = .free → (bankOf (channelOfState s c) b).record = [])

/-- Every live job has exactly the work its state says: a queue entry, its captures, or an analysis item. -/
def WorkFits (s : State) : Prop :=
  JobsSuit s ∧ QueuesExact s ∧ CapturesExact s ∧ PairsExact s ∧ ItemsExact s ∧ BanksExact s

/-! ### Exact real values -/

/-- The real number c of a level: c of level 0 is 0, and c of the next level is √(2 + c). -/
noncomputable def cosineOf (m : Nat) : ℝ :=
  Real.sqrtTwoAddSeries 0 m

/-- The real number a surd stands for. -/
noncomputable def surdValue : (m : Nat) → Surd m → ℝ
  | 0, x => ((show Int from x : Int) : ℝ)
  | m + 1, (a, b) => surdValue m a + surdValue m b * cosineOf (m + 1)

/-- The taper w_n = 0.5 − 0.5 × cos(2πn/L) (R119). -/
noncomputable def taper (length n : Nat) : ℝ :=
  1 / 2 - 1 / 2 * Real.cos (2 * Real.pi * n / length)

/-- The transform Y[k] of one segment (R120). -/
noncomputable def exactTransform (length k : Nat) (segment : List Int) : ℂ :=
  ∑ n ∈ Finset.range length,
    (taper length n : ℂ) * (segment.getD n 0 : ℤ) * Complex.exp (-(2 * Real.pi * Complex.I * k * n / length))

end Sys2Proof.Machine
end

