-- ==== Sys2Proof/Certificates/Slice0/Obligations.lean ====
section
/-! DEFINITION. The statements about the part, for the provers. -/

open Sys2Proof Sys2Proof.Machine

/-! ### The step -/

/-- A step takes the command at the front of the queue and executes it on the part with the queue's rest. -/
def Obligations.StepTakesTheFrontCommand : Prop :=
  ∀ (c : Instr) (rest : List Instr) (s : State),
    step { s with pending := c :: rest } = exec c { s with pending := rest }

/-- The model's choice (log 5): with no command waiting, a step brings about the one event of the part's own clocks and
blocks that the free value names, whatever that value is, and no free value is used twice. R1: a reference edge adds one to
the count of the gate. R7: a coarse tick adds one to the counter, which goes from 2^36 − 1 to 0; a held counter stands, and
no tick passes an event that is due (log 4). R21, R26, R41, R44, R45: a settling end, gate or deadline that falls on the
present tick is what its own command brings about, and nothing happens where none falls on it. R81, R184: a period of the
oscillator senses both lines. R114: the end of a segment that is not the last adds its powers to the power sums. -/
def Obligations.StepWithNoCommandFollowsTheFreeValue : Prop :=
  (∀ s : State, s.pending = [] →
    step s = .next (idleEvent (Config.idleEvent s.freeIndex) { s with freeIndex := s.freeIndex + 1 }) ∧
    ∀ e : IdleEvent, (idleEvent e { s with freeIndex := s.freeIndex + 1 }).freeIndex = s.freeIndex + 1 ∧
      (idleEvent e { s with freeIndex := s.freeIndex + 1 }).pending = []) ∧
  (∀ s : State,
    idleEvent .referenceEdge s = { s with timebase := { s.timebase with gateEdges := s.timebase.gateEdges + 1 } } ∧
    (TicksPass s 1 → idleEvent .coarseTick s = { s with timebase := { s.timebase with coarse := s.timebase.coarse + 1 } } ∧
      (idleEvent .coarseTick s).timebase.coarse.toNat = (s.timebase.coarse.toNat + 1) % 2 ^ 36) ∧
    (¬TicksPass s 1 → idleEvent .coarseTick s = s) ∧
    ∀ triggerLine receiveLine : Level,
      idleEvent (.internalPeriod triggerLine receiveLine) s = senseReceiveLine receiveLine (senseTrigger triggerLine s)) ∧
  (∀ (c : ChannelId) (s : State),
    let ch := channelOfState s c
    let now := s.timebase.coarse
    let taken := idleEvent (.channelDue c) s
    (s.timebase.refState ≠ .locked ∨ dueTick s c ≠ some now → taken = s) ∧
    (s.timebase.refState = .locked →
      (∀ ctx, ch.state = .settling → ch.context = some ctx → settlingReported s c = false → ctx.settlingEnd = now →
        exec (.settlingEnd c) s = .next taken) ∧
      (∀ ctx, Captures s c ctx → ctx.deadline = some now → exec (.edgeTimeout c) s = .next taken) ∧
      ∀ g ctx, Calibrates s g ctx → ctx.channel = c →
        (ctx.settled = false → ctx.settlingEnd = now →
          (ctx.pass = .codeDensity → exec (.calSettlingEnd g) s = .next taken) ∧
          (ctx.pass = .floor → exec (.floorGateOpen g) s = .next taken)) ∧
        (ctx.settled = true → ctx.pass = .floor → ctx.deadline = some now → exec (.floorEdgeTimeout g) s = .next taken))) ∧
  ∀ s : State,
    (∀ item w sp j, s.engine = .spectralPass item w sp → jobWithId s item.job = some j →
      let ties := itemTies s item j
      (sp.segment + 1 < sp.segments → idleEvent .segmentEnd s =
        { s with engine := .spectralPass item w (addSegments ties.1 ties.2 1 sp) }) ∧
      (sp.segments ≤ sp.segment + 1 → idleEvent .segmentEnd s = s)) ∧
    ((∀ item w sp, s.engine ≠ .spectralPass item w sp) → idleEvent .segmentEnd s = s)

/-- No command stops the part: every command answers a next state, and leaves the queue of waiting commands alone. -/
def Obligations.EveryCommandCompletesAndKeepsTheQueue : Prop :=
  ∀ (c : Instr) (s : State), ∃ t, exec c s = .next t ∧ t.pending = s.pending

/-! ### Requests over the link -/

/-- R171, R187: reading a request's payload gives back the request, for every request kind and every field value that a
payload can carry. -/
def Obligations.RequestPayloadsReadBack : Prop :=
  ∀ r : Request, (∀ job, r = .jobSubmit job → job.wellFormed = true) →
    readRequest (requestKind r) (requestPayload r) = some r

/-- R172: the CRC of the nine bytes 49 … 57 is 10,673, and the frame that the part or the host makes passes the check while
the frame with any one bit of its check field turned does not. -/
def Obligations.CheckFieldIsTheCrc : Prop :=
  crc [49, 50, 51, 52, 53, 54, 55, 56, 57] = 10673 ∧
  ∀ (kind tag : Byte) (payload : List Byte),
    checkHolds (makeFrame kind tag payload) = true ∧
    ∀ i : Fin 16, checkHolds { makeFrame kind tag payload with check := (makeFrame kind tag payload).check ^^^ BitVec.twoPow 16 i } = false

/-- R181, R182, R189, section 11.10: IDENTIFY answers the fixed items and the reset cause; neither it nor STATUS changes
anything else. STATUS answers 396 bytes in every state of the part, block by block: the timebase (R10), the channels and pair
units (R35), the calibration records and sections, the group queues (R77), the trigger (R86), the analysis block (R112), the
limit table (R152), results and notices (R168), and the link; each place beyond a list's count or the extent holds the
absence mark. The codes are those of sections 11.3, 11.5, 11.8 and 11.10. -/
def Obligations.IdentifyAndStatusAnswer : Prop :=
  (([.absent, .outOfRange, .acquiring, .locked] : List RefState).map refStateCode = [0, 1, 2, 3] ∧
   [Multiplier.unlock, .lock].map multiplierCode = [0, 1] ∧
   [ChannelState.idle, .settling, .capturing, .calibrating].map channelStateCode = [0, 1, 2, 3] ∧
   (∀ site : Site, selectorCode (.site site) = BitVec.ofNat 8 site.val) ∧
   [Selector.refLoop, .dither, .nothing].map selectorCode = [16, 17, 18] ∧
   [BankState.free, .filling, .full].map bankStateCode = [0, 1, 2] ∧
   [Termination.highZ, .ohm50Gnd, .ohm50Vtt].map terminationCode = [0, 1, 2] ∧
   [Edge.rising, .falling].map edgeCode = [0, 1] ∧ [Level.low, .high].map levelCode = [0, 1] ∧
   (∀ job low high, [PairUnit.idle, .settling job low high, .capturing job low high].map pairCode = [0, 1, 2]) ∧
   (∀ temperature low high table floor cause span sigma,
     [CalRecord.uncal, .running, .valid temperature low high table floor, .failed cause span sigma].map calStateCode =
       [0, 1, 2, 3]) ∧
   [Pass.codeDensity, .floor].map passCode = [0, 1] ∧
   [JobState.held, .queued, .settling, .capturing, .analysisWait, .analysing].map jobStateCode = [0, 1, 2, 3, 4, 5] ∧
   [TriggerState.disarmed, .armed].map triggerStateCode = [0, 1] ∧
   (∀ item w sp, [Engine.idle, .timePass item w, .spectralPass item w sp, .verdict item w].map engineCode = [0, 1, 2, 3]) ∧
   (∀ r, [Slot.empty, .new r, .read r].map slotCode = [0, 1, 2]) ∧
   [ResetCause.powerOn, .resetRequest, .linkBreak].map resetCauseCode = [0, 1, 2]) ∧
  ∀ (tag : Byte) (s : State), Ready s →
    let word (n : Nat) : List Byte := bytes16OfNat n
    let byte (n : Nat) : Byte := byteOfNat n
    let places (capacity : Nat) (mark : List Byte) (items : List (List Byte)) : List Byte :=
      byte items.length :: ((items ++ List.replicate capacity mark).take capacity).flatten
    let flagSet (f : FlagSet) : Byte :=
      byteOfBits f.resultReady f.calDone f.refChange f.triggerTaken f.queueIdle false false false
    let channel (c : ChannelId) : List Byte :=
      let ch := channelOfState s c
      [channelStateCode ch.state, selectorCode ch.selector, bankStateCode ch.bank0.state, bankStateCode ch.bank1.state]
        ++ word ((ch.context.map (·.job)).getD 0) ++ bytes16OfInt ch.config.threshold
        ++ [terminationCode ch.config.termination, edgeCode ch.config.edge]
    let calibration (c : ChannelId) : List Byte :=
      [calStateCode (recordOf s c), match recordOf s c with
        | .valid temperature _ _ _ _ => if 20 < (s.timebase.temperature - temperature).natAbs then 1 else 0
        | _ => 0]
    let calSection (g : Group) : List Byte := match sectionOf s g with
      | .free => [0, 0xFF, 0xFF]
      | .busy ctx => [1, byte ctx.channel.val, passCode ctx.pass]
    let entry : Entry → List Byte
      | .job id site => [0] ++ word id ++ [byte site.val, ((jobAt s site).map fun j => jobStateCode j.state).getD 0xFF]
      | .calibration c => [1, 0, 0, byte c.val, 0xFF]
    let queue (g : Group) : List Byte := places 10 [0xFF, 0, 0, 0xFF, 0xFF] ((queueOf s g).map entry)
    let limit (index : Fin 64) : List Byte :=
      if index.val < s.limits.extent then [if (s.limits.entries[index]).isSome then 1 else 0, byte (inUseOf s index)]
      else [0xFF, 0xFF]
    let slot (site : Site) : List Byte := match slotAt s site with
      | .empty => [0, 0, 0]
      | .new r => 1 :: word r.job
      | .read r => 2 :: word r.job
    let status : List Byte :=
      [refStateCode s.timebase.refState, byte s.timebase.run, multiplierCode s.timebase.multiplier]
        ++ bytes16OfInt s.timebase.temperature
      ++ (List.finRange 4).flatMap channel ++ [pairCode (pairOf s .a), pairCode (pairOf s .b)]
      ++ (List.finRange 4).flatMap calibration ++ calSection .a ++ calSection .b
      ++ queue .a ++ queue .b ++ [byte (liveJobs s).length] ++ word s.jobCounter
      ++ [triggerStateCode s.trigger.state, edgeCode s.trigger.polarity, levelCode s.trigger.lineLevel,
        if s.trigger.qualification.isSome then 1 else 0]
      ++ places 8 [0, 0] (s.analysisQueue.map fun item => word item.job)
      ++ [engineCode s.engine] ++ word (((engineItem s.engine).map (·.job)).getD 0)
      ++ [byte s.limits.extent] ++ bytes32OfNat s.limits.currentLot ++ (List.finRange 64).flatMap limit
      ++ (List.finRange 16).flatMap slot ++ places 16 [0xFF] (s.results.completion.map fun site => [byte site.val])
      ++ [flagSet s.notices.flags, flagSet s.notices.enables, if s.notices.idleHolds then 1 else 0]
      ++ [byte s.link.hold.length, byte s.link.faults.length, s.link.noticeTag, resetCauseCode s.link.resetCause]
    exec (.identify tag) s = .next (answered 0x81 tag
      [0x00, 0x4E, 0x0D, 0x04, 0x16, 1, resetCauseCode s.link.resetCause, 16, 4, 2, 0x00, 0x00, 0x10, 0x00, 64, 4, 0x00, 0x04] s) ∧
    exec (.status tag) s = .next (answered 0x82 tag (0x00 :: status) s) ∧ (0x00 :: status).length = 396

/-! ### Power-on and resets -/

/-- R9, R11, R36, R54, R80, R87, R113, R153, R169, R185, R186: what POWER_ON leaves of every block. The first temperature sample
and the line levels are the environment's (log 10); the sample, when taken, is the reading, clamped to −160 … 600. The low
time of the break detector starts from zero (R184). -/
def Obligations.PowerOnLeavesTheTableValues : Prop :=
  ∀ (receiveLine triggerLine : Level) (sample : Option Int) (s : State), ∃ t,
    exec (.powerOn receiveLine triggerLine sample) s = .next t ∧
    t.timebase.refState = .absent ∧ t.timebase.run = 0 ∧ t.timebase.multiplier = .unlock ∧ t.timebase.gateEdges = 0 ∧
    t.timebase.gateMark = false ∧ t.timebase.coarse = 0 ∧ t.timebase.sampleTaken = sample.isSome ∧
    (∀ x, sample = some x → t.timebase.temperature = max (-160) (min 600 x)) ∧ t.timebase.gateBegan = .unlock ∧
    (∀ c, channelOfState t c =
      { config := { threshold := 0, termination := .ohm50Gnd, edge := .rising }, selector := .nothing, ratio := 1, count := 0,
        state := .idle, bank0 := { state := .free, record := [] }, bank1 := { state := .free, record := [] },
        context := none }) ∧
    (∀ g, pairOf t g = .idle ∧ sectionOf t g = .free ∧ queueOf t g = []) ∧ (∀ c, recordOf t c = .uncal) ∧
    liveJobs t = [] ∧ t.jobCounter = 1 ∧
    t.trigger.state = .disarmed ∧ t.trigger.polarity = .rising ∧ t.trigger.qualification = none ∧
    t.trigger.sensed = false ∧ t.analysisQueue = [] ∧ t.engine = .idle ∧
    (∀ index : Fin 64, t.limits.entries[index] = none ∧ inUseOf t index = 0) ∧ t.limits.extent = 16 ∧
    t.limits.currentLot = 0 ∧ (∀ site, slotAt t site = .empty) ∧ t.results.completion = [] ∧
    t.notices = { flags := {}, enables := {}, due := false, idleHolds := true } ∧
    t.link.receiver = .hunt ∧ t.link.hold = [] ∧ t.link.faults = [] ∧ t.link.server = .idle ∧
    t.link.transmitter = .betweenFrames ∧ t.link.noticeTag = 0 ∧ t.link.resetCause = .powerOn ∧
    t.link.lowPeriods = 0 ∧ t.trigger.lineLevel = triggerLine ∧
    t.link.detector = (match receiveLine with
      | .high => .armed
      | .low => .spent)

/-- R11, R36, R54, R80, R87, R113, R153, R169, R183 to R186: a break, or the end of a RESET reply, leaves the timebase, the
configuration records and the calibration records that are not RUNNING as they were, and every other block at its starting
values; the break detector goes on after a RESET_REQUEST, and is SPENT after a LINK_BREAK. After a LINK_BREAK the transmitter
is between frames once the byte it was at has gone: that TRANSMIT_FRAME_END marks that instant is the model's choice (log
18), and so is the count of low periods (log 17). -/
def Obligations.ResetsKeepTimebaseConfigurationAndCalibration : Prop :=
  ∀ (c : Instr) (s : State),
    ((c = .linkBreak ∧ s.link.detector = .armed) ∨
      c = .transmitFrameEnd ∧ ∃ reply f, s.link.server = .resetPending reply ∧ s.link.transmitter = .sending .serverReply f) →
    ∃ t, exec c s = .next t ∧
    t.timebase = s.timebase ∧
    (∀ c, (channelOfState t c).config = (channelOfState s c).config ∧ (channelOfState t c).selector = .nothing ∧
      (channelOfState t c).ratio = 1 ∧ (channelOfState t c).count = 0 ∧ (channelOfState t c).state = .idle ∧
      (channelOfState t c).bank0 = { state := .free, record := [] } ∧
      (channelOfState t c).bank1 = { state := .free, record := [] } ∧ (channelOfState t c).context = none) ∧
    (∀ c, recordOf t c = if recordOf s c = .running then .uncal else recordOf s c) ∧
    (∀ g, pairOf t g = .idle ∧ sectionOf t g = .free ∧ queueOf t g = []) ∧ liveJobs t = [] ∧ t.jobCounter = 1 ∧
    t.trigger.state = .disarmed ∧ t.trigger.polarity = .rising ∧ t.trigger.qualification = none ∧
    t.trigger.sensed = false ∧ t.analysisQueue = [] ∧ t.engine = .idle ∧
    (∀ index : Fin 64, t.limits.entries[index] = none ∧ inUseOf t index = 0) ∧ t.limits.extent = 16 ∧
    t.limits.currentLot = 0 ∧ (∀ site, slotAt t site = .empty) ∧ t.results.completion = [] ∧
    t.notices = { flags := {}, enables := {}, due := false, idleHolds := true } ∧
    t.link.receiver = .hunt ∧ t.link.hold = [] ∧ t.link.faults = [] ∧ t.link.server = .idle ∧
    t.link.transmitter = (if c = .linkBreak ∧ s.link.transmitter ≠ .betweenFrames then .finishingByte else .betweenFrames) ∧
    t.link.noticeTag = 0 ∧ t.link.lowPeriods = (if c = .linkBreak then max s.link.lowPeriods 250000 else s.link.lowPeriods) ∧
    t.link.resetCause = (if c = .linkBreak then .linkBreak else .resetRequest) ∧
    t.link.detector = if c = .linkBreak then .spent else s.link.detector

/-! ### Timebase -/

/-- R1, R3: the end of a gate outside LOCKED, unless it is the fourth in-lock gate in a row, sets the reference state and the
in-lock run by the gate's class; a gate in tolerance leaves LOCKED as it is, also one that is not in-lock, which R3 calls not
reachable and which is the model's choice (log 8); and the next gate begins from 0 with its mark clear. -/
def Obligations.GateEndMovesTheReferenceState : Prop :=
  ∀ (edges : Nat) (s : State),
    let t := s.timebase
    let total := t.gateEdges + edges
    let inTolerance := 99950 ≤ total ∧ total ≤ 100050
    let inLock := t.gateBegan = .lock ∧ t.gateMark = false
    (t.refState ≠ .locked → ¬(t.refState = .acquiring ∧ t.run = 3 ∧ inTolerance ∧ inLock) →
      exec (.gateEnd edges) s = .next
        { s with timebase :=
            { t with
              refState := if total = 0 then .absent else if inTolerance then .acquiring else .outOfRange
              run := if inTolerance ∧ inLock then (if t.refState = .acquiring then t.run + 1 else 1) else 0
              gateEdges := 0, gateMark := false, gateBegan := t.multiplier } }) ∧
    (t.refState = .locked → inTolerance →
      exec (.gateEnd edges) s = .next
        { s with timebase := { t with gateEdges := 0, gateMark := false, gateBegan := t.multiplier } })

/-- R3, R5: the fourth in-lock gate in a row gives LOCKED with run 0; the coarse counter starts from 0, REF_CHANGE is raised,
and both dispatchers examine their heads. -/
def Obligations.FourthInLockGateLocks : Prop :=
  ∀ (edges : Nat) (s : State), s.timebase.refState = .acquiring → s.timebase.run = 3 →
    s.timebase.gateBegan = .lock → s.timebase.gateMark = false →
    99950 ≤ s.timebase.gateEdges + edges → s.timebase.gateEdges + edges ≤ 100050 →
    exec (.gateEnd edges) s = .next (followIdle (examine .b (examine .a (raise .refChange
      { s with timebase :=
          { s.timebase with
            refState := .locked, run := 0, coarse := 0, gateEdges := 0, gateMark := false
            gateBegan := s.timebase.multiplier } }))))

/-- R3, R4, R6, R31, R52, R163: when LOCKED is left, the counter holds its count, every capture ends with its FILLING bank
FREE, its channel and its pair unit IDLE, VALID records become UNCAL, and RUNNING ones FAILED with REF_LOST, their section FREE
and their channel IDLE; such a record keeps its span exactly when the histogram was complete. REF_CHANGE is raised, and
CAL_DONE if a calibration ran; queues, analysis, limits and triggers are left alone. Every live job that was SETTLING or
CAPTURING ends with a REF_LOST result, whatever the order of the free value (log 11). -/
def Obligations.ReferenceLossEndsCapturesAndCalibrations : Prop :=
  ∀ (c : Instr) (s : State), s.timebase.refState = .locked → IdsDistinct s → ChannelsFit s → PairsExact s →
    (c = .multiplierUnlockReport ∨
      ∃ edges, c = .gateEnd edges ∧ ¬(99950 ≤ s.timebase.gateEdges + edges ∧ s.timebase.gateEdges + edges ≤ 100050)) →
    ∃ t, exec c s = .next t ∧
      t.timebase.refState ≠ .locked ∧ t.timebase.run = 0 ∧ t.timebase.coarse = s.timebase.coarse ∧
      (c = .multiplierUnlockReport → t.timebase.refState = .acquiring ∧ t.timebase.multiplier = .unlock ∧
        t.timebase.gateMark = true) ∧
      (∀ edges, c = .gateEnd edges →
        t.timebase.refState = if s.timebase.gateEdges + edges = 0 then .absent else .outOfRange) ∧
      (∀ d, { channelOfState t d with bank0 := (channelOfState s d).bank0, bank1 := (channelOfState s d).bank1 } =
          { channelOfState s d with state := .idle, context := none } ∧
        (∀ ctx, (channelOfState s d).context = some ctx →
          bankOf (channelOfState t d) ctx.bank = { state := .free, record := [] }) ∧
        ∀ b, (∀ ctx, (channelOfState s d).context = some ctx → ctx.bank ≠ b) →
          bankOf (channelOfState t d) b = bankOf (channelOfState s d) b) ∧
      (∀ g, pairOf t g = .idle ∧ sectionOf t g = .free) ∧
      (∀ d, isValid (recordOf s d) = true → recordOf t d = .uncal) ∧
      (∀ d, recordOf s d = .running → ∃ ctx, sectionOf s (groupOfChannel d) = .busy ctx ∧ ctx.channel = d ∧
        (ctx.hits ≠ 65536 → recordOf t d = .failed .refLost none none) ∧
        ∀ low high, ctx.hits = 65536 → ctx.histogram.length = 256 → low ≤ high → high < 256 →
          0 < ctx.histogram.getD low 0 → 0 < ctx.histogram.getD high 0 →
          (∀ code, code < low ∨ high < code → ctx.histogram.getD code 0 = 0) →
          recordOf t d = .failed .refLost (some (low, high)) none) ∧
      (∀ d, isValid (recordOf s d) = false → recordOf s d ≠ .running → recordOf t d = recordOf s d) ∧
      t.notices.flags.refChange = true ∧
      (∀ d, recordOf s d = .running → t.notices.flags.calDone = true) ∧
      (∀ d ctx j, (channelOfState s d).context = some ctx → jobAt s j.site = some j → ctx.job = j.id →
        jobAt t j.site = none ∧
        ∃ r, slotAt t j.site = .new r ∧ r.job = j.id ∧ r.status = .refLost ∧ r.figures = noFigures) ∧
      (∀ site j, jobAt s site = some j → (∀ d ctx, (channelOfState s d).context = some ctx → ctx.job ≠ j.id) →
        jobAt t site = some j) ∧
      t.queues = s.queues ∧ t.analysisQueue = s.analysisQueue ∧ t.engine = s.engine ∧ t.trigger = s.trigger ∧
      t.link = s.link ∧ t.limits.entries = s.limits.entries

/-- R2, R9, R185: a lock report sets the indication to LOCK; an unlock report outside LOCKED sets it to UNLOCK and sets the
unlock mark of the gate in progress. A temperature sample replaces the reading, clamped to −160 … 600 quarter-degrees (log
20); a frame that waits in the hold of an IDLE server is then served. Nothing else changes. -/
def Obligations.MultiplierReportsAndTemperatureSamplesSetTheirReadings : Prop :=
  (∀ s : State, exec .multiplierLockReport s = .next { s with timebase := { s.timebase with multiplier := .lock } }) ∧
  (∀ s : State, s.timebase.refState ≠ .locked →
    exec .multiplierUnlockReport s =
      .next { s with timebase := { s.timebase with multiplier := .unlock, gateMark := true } }) ∧
  ∀ (sample : Int) (s : State),
    let sampled : State :=
      { s with timebase := { s.timebase with temperature := max (-160) (min 600 sample), sampleTaken := true } }
    ((s.link.server ≠ .idle ∨ s.link.hold = []) → exec (.temperatureSample sample) s = .next sampled) ∧
    ∀ f rest, s.link.server = .idle → s.link.hold = f :: rest →
      exec (.temperatureSample sample) s = .next (serveFrame f (setLink { s.link with hold := rest } sampled))

/-! ### Capture channels -/

/-- R13, R14, R51: CHANNEL_CONFIG of an IDLE channel rounds the threshold to a multiple of 10 mV, ties up, clamps it, sets
the record, and makes the calibration record UNCAL when the configuration changed; a channel that is not IDLE refuses with
CHANNEL_BUSY, and a channel, termination or edge that is none is a BAD_FIELD of field 1, 3 or 4. -/
def Obligations.ChannelConfigSetsAnIdleChannel : Prop :=
  (∀ (tag : Byte) (c : ChannelId) (requested : BitVec 16) (termination : Termination) (edge : Edge) (s : State), Ready s →
    let used : Int := max (-1000) (min 2500 (10 * ((requested.toInt + 5) / 10)))
    let config : ChannelConfig := { threshold := used, termination, edge }
    let record := if config = (channelOfState s c).config then recordOf s c else .uncal
    ((channelOfState s c).state = .idle →
      exec (.channelConfig tag (channelCode c) requested (terminationCode termination) (edgeCode edge)) s =
        .next (answered 0x83 tag
          ([0x00] ++ bytes16OfInt used ++ [terminationCode termination, edgeCode edge, calStateCode record])
          (setRecord c record (setChannel c { channelOfState s c with config } s)))) ∧
    ((channelOfState s c).state ≠ .idle →
      exec (.channelConfig tag (channelCode c) requested (terminationCode termination) (edgeCode edge)) s =
        .next (answered 0x83 tag [0x10] s))) ∧
  ∀ (tag channel termination edge : Byte) (requested : BitVec 16) (s : State), Ready s →
    (4 ≤ channel.toNat →
      exec (.channelConfig tag channel requested termination edge) s = .next (answered 0x83 tag [0x05, 1] s)) ∧
    (channel.toNat < 4 → 3 ≤ termination.toNat →
      exec (.channelConfig tag channel requested termination edge) s = .next (answered 0x83 tag [0x05, 3] s)) ∧
    (channel.toNat < 4 → termination.toNat < 3 → 2 ≤ edge.toNat →
      exec (.channelConfig tag channel requested termination edge) s = .next (answered 0x83 tag [0x05, 4] s))

/-- R21 to R23: a SINGLE channel at its settling end opens its start gate there; a paired channel reports, and with both
reports the common gate opens on both channels at that tick. A gate starts the prescaler, the index and the edge timeout
afresh, and the job is CAPTURING. -/
def Obligations.SettlingEndOpensTheGate : Prop :=
  ∀ (c : ChannelId) (ctx : CaptureContext) (s : State), (channelOfState s c).state = .settling →
    (channelOfState s c).context = some ctx → TicksPass s (ticksUntil s ctx.settlingEnd) →
    let g := groupOfChannel c
    let other := if c = lowChannel g then highChannel g else lowChannel g
    let opened (ch : Channel) (x : CaptureContext) : Channel :=
      { ch with
        state := .capturing, count := 0
        context := some { x with
          nextIndex := -2, previous := none
          deadline := some (ctx.settlingEnd + BitVec.ofNat 36 x.timeout) } }
    (ctx.mode = .single → settlingReported s c = false →
      exec (.settlingEnd c) s = .next (setJobState ctx.job .capturing
        (setChannel c (opened (channelOfState s c) ctx) (atTick ctx.settlingEnd s)))) ∧
    (∀ job, ctx.mode = .paired → pairOf s g = .settling job false false →
      exec (.settlingEnd c) s = .next (setPair g (.settling job (decide (c = lowChannel g)) (decide (c = highChannel g)))
        (atTick ctx.settlingEnd s))) ∧
    (∀ job x, ctx.mode = .paired → pairOf s g = .settling job (decide (other = lowChannel g)) (decide (other = highChannel g)) →
      (channelOfState s other).context = some x →
      exec (.settlingEnd c) s = .next (setJobState job .capturing (setPair g (.capturing job false false)
        (setChannel (highChannel g) (if c = highChannel g then opened (channelOfState s c) ctx
            else opened (channelOfState s other) x)
          (setChannel (lowChannel g) (if c = lowChannel g then opened (channelOfState s c) ctx
            else opened (channelOfState s other) x) (atTick ctx.settlingEnd s))))))

/-- R16, R17: while a gate is open, a comparator edge that does not bring the prescaler count to P adds one to it and does
nothing else, and one that does is a prescaled edge; an edge on a channel that is IDLE or SETTLING, or that waits with a full
record for the other channel of its pair (R28), does nothing. R33: an edge on a CALIBRATING channel passes to its section: to
the histogram in the code-density pass, to the floor pass while its gate is open, and otherwise nowhere. -/
def Obligations.ComparatorEdgeIsCountedWhileTheGateIsOpen : Prop :=
  ∀ (c : ChannelId) (ticks : Nat) (code : Byte) (s : State), TicksPass s ticks →
    let ch := channelOfState s c
    (∀ ctx, Captures s c ctx → ch.count + 1 < ch.ratio →
      exec (.comparatorEdge c ticks code) s = .next (setChannel c { ch with count := ch.count + 1 } (ticksLater ticks s))) ∧
    (∀ ctx, Captures s c ctx → ch.ratio ≤ ch.count + 1 →
      exec (.comparatorEdge c ticks code) s = exec (.prescaledEdge c ticks code) s) ∧
    (ch.state = .idle ∨ ch.state = .settling →
      exec (.comparatorEdge c ticks code) s = .next (ticksLater ticks s)) ∧
    (∀ ctx, ch.state = .capturing → ch.context = some ctx → ctx.deadline = none →
      exec (.comparatorEdge c ticks code) s = .next (ticksLater ticks s)) ∧
    ∀ g ctx, Calibrates s g ctx → ctx.channel = c →
      (ctx.pass = .codeDensity →
        exec (.comparatorEdge c ticks code) s = exec (.codeDensityHit g code) (ticksLater ticks s)) ∧
      (ctx.pass = .floor → ctx.deadline.isSome = true →
        exec (.comparatorEdge c ticks code) s = exec (.floorTimestamp g ticks code) s) ∧
      (ctx.pass = .floor → ctx.deadline = none →
        exec (.comparatorEdge c ticks code) s = .next (ticksLater ticks s))

/-- R16, R17, R24 to R26: an edge that brings the count to P is timestamped through the fine table; when its interval passes
and it is not the last, the count returns to 0, the index advances, the timestamp is stored from index 0 on, and the edge
deadline moves T ticks on. -/
def Obligations.PrescaledEdgeExtendsTheRecord : Prop :=
  ∀ (c : ChannelId) (ticks : Nat) (code : Byte) (ctx : CaptureContext) (s : State), TicksPass s ticks →
    Captures s c ctx → (channelOfState s c).ratio ≤ (channelOfState s c).count + 1 →
    let now : Tick := s.timebase.coarse + BitVec.ofNat 36 ticks
    let t : Timestamp := BitVec.ofNat 48 (now.toNat * 4096 + (fineTable (recordOf s c)).getD code.toNat 0)
    ctx.nextIndex + 1 ≠ ctx.recordLength →
    (∀ previous, ctx.previous = some previous →
      let interval := (t - previous).toNat * ctx.fNom
      1228800000000 * ctx.prescale ≤ interval ∧ interval ≤ 2048000000000 * ctx.prescale) →
    let bank := bankOf (channelOfState s c) ctx.bank
    let kept : Bank := if 0 ≤ ctx.nextIndex then { bank with record := bank.record ++ [t] } else bank
    exec (.prescaledEdge c ticks code) s = .next (setChannel c
      { withBank { channelOfState s c with count := 0 } ctx.bank kept with
        context := some
          { ctx with
            nextIndex := ctx.nextIndex + 1, previous := some t
            deadline := some (now + BitVec.ofNat 36 ctx.timeout) } }
      (ticksLater ticks s))

/-- R25, R26, R29, R30: an interval outside the period window ends the capture with EDGE_FAULT at its index, and a deadline
reached ends it with NO_SIGNAL: a SINGLE job's channel, or both channels of a pair with their pair unit, return to IDLE
with the FILLING bank FREE, the job block ends the job, and the dispatcher examines its head. -/
def Obligations.CaptureFailuresStopTheCapture : Prop :=
  (∀ (c : ChannelId) (ticks : Nat) (code : Byte) (ctx : CaptureContext) (previous : Timestamp) (s : State),
    TicksPass s ticks → Captures s c ctx → (channelOfState s c).ratio ≤ (channelOfState s c).count + 1 →
    let now : Tick := s.timebase.coarse + BitVec.ofNat 36 ticks
    let t : Timestamp := BitVec.ofNat 48 (now.toNat * 4096 + (fineTable (recordOf s c)).getD code.toNat 0)
    ctx.previous = some previous →
    ((t - previous).toNat * ctx.fNom < 1228800000000 * ctx.prescale ∨
      2048000000000 * ctx.prescale < (t - previous).toNat * ctx.fNom) →
    exec (.prescaledEdge c ticks code) s = .next (followIdle (examine (groupOfChannel c)
      (endJob ctx.job (.edgeFault ctx.nextIndex c) (stopCapture c ctx.mode
        (setChannel c { channelOfState s c with count := 0 } (ticksLater ticks s))))))) ∧
  (∀ (c : ChannelId) (ctx : CaptureContext) (deadline : Tick) (s : State), Captures s c ctx → ctx.deadline = some deadline →
    TicksPass s (ticksUntil s deadline) →
    exec (.edgeTimeout c) s = .next (followIdle (examine (groupOfChannel c)
      (endJob ctx.job (.noSignal c) (stopCapture c ctx.mode (atTick deadline s)))))) ∧
  ∀ (c : ChannelId) (ctx : CaptureContext) (mode : Mode) (s : State), (channelOfState s c).context = some ctx →
    let stopped := channelOfState (stopCapture c mode s) c
    stopped.state = .idle ∧ stopped.context = none ∧ stopped.selector = (channelOfState s c).selector ∧
    stopped.config = (channelOfState s c).config ∧ bankOf stopped ctx.bank = { state := .free, record := [] } ∧
    (mode = .paired → pairOf (stopCapture c mode s) (groupOfChannel c) = .idle)

/-- R24, R27, R88, R89: the last timestamp of a SINGLE record makes its bank FULL and its channel IDLE, and an analysis item
with the bank and the snapshot joins the analysis queue. -/
def Obligations.RecordCompleteHandsTheBankOver : Prop :=
  ∀ (c : ChannelId) (ticks : Nat) (code : Byte) (ctx : CaptureContext) (s : State), TicksPass s ticks →
    Captures s c ctx → (channelOfState s c).ratio ≤ (channelOfState s c).count + 1 → ctx.mode = .single →
    let now : Tick := s.timebase.coarse + BitVec.ofNat 36 ticks
    let t : Timestamp := BitVec.ofNat 48 (now.toNat * 4096 + (fineTable (recordOf s c)).getD code.toNat 0)
    ctx.nextIndex + 1 = ctx.recordLength → 0 ≤ ctx.nextIndex →
    (∀ previous, ctx.previous = some previous →
      let interval := (t - previous).toNat * ctx.fNom
      1228800000000 * ctx.prescale ≤ interval ∧ interval ≤ 2048000000000 * ctx.prescale) →
    let full : Bank := { state := .full, record := (bankOf (channelOfState s c) ctx.bank).record ++ [t] }
    exec (.recordComplete c ticks code) s = .next (followIdle (examine (groupOfChannel c)
      (joinAnalysis { job := ctx.job, first := { channel := c, bank := ctx.bank, snapshot := ctx.snapshot }, second := none }
        (setChannel c { withBank { channelOfState s c with count := 0 } ctx.bank full with state := .idle, context := none }
          (ticksLater ticks s)))))

/-- R24, R28, R88, R89: the last timestamp of a paired channel's record reports it full and stops its edge timeout; when the
other channel is full already, both banks become FULL, both channels and the pair unit IDLE, and one analysis item with
the lower-numbered channel first joins the analysis queue. -/
def Obligations.PairRecordFullCompletesThePair : Prop :=
  ∀ (c : ChannelId) (ticks : Nat) (code : Byte) (ctx : CaptureContext) (job : Nat) (s : State), TicksPass s ticks →
    Captures s c ctx → (channelOfState s c).ratio ≤ (channelOfState s c).count + 1 → ctx.mode = .paired →
    let g := groupOfChannel c
    let other := if c = lowChannel g then highChannel g else lowChannel g
    let now : Tick := s.timebase.coarse + BitVec.ofNat 36 ticks
    let t : Timestamp := BitVec.ofNat 48 (now.toNat * 4096 + (fineTable (recordOf s c)).getD code.toNat 0)
    ctx.nextIndex + 1 = ctx.recordLength → 0 ≤ ctx.nextIndex →
    (∀ previous, ctx.previous = some previous →
      let interval := (t - previous).toNat * ctx.fNom
      1228800000000 * ctx.prescale ≤ interval ∧ interval ≤ 2048000000000 * ctx.prescale) →
    let bank := bankOf (channelOfState s c) ctx.bank
    let waiting : Channel :=
      { withBank { channelOfState s c with count := 0 } ctx.bank { bank with record := bank.record ++ [t] } with
        context := some { ctx with nextIndex := ctx.nextIndex + 1, previous := some t, deadline := none } }
    let stored := setChannel c waiting (ticksLater ticks s)
    let filled (d : ChannelId) (x : CaptureContext) (u : State) : State :=
      setChannel d
        { withBank (channelOfState u d) x.bank { state := .full, record := (bankOf (channelOfState u d) x.bank).record } with
          state := .idle, context := none } u
    (pairOf s g = .capturing job false false →
      exec (.pairRecordFull c ticks code) s =
        .next (setPair g (.capturing job (decide (c = lowChannel g)) (decide (c = highChannel g))) stored)) ∧
    ∀ low high, pairOf s g = .capturing job (decide (other = lowChannel g)) (decide (other = highChannel g)) →
      (channelOfState stored (lowChannel g)).context = some low →
      (channelOfState stored (highChannel g)).context = some high →
      exec (.pairRecordFull c ticks code) s = .next (followIdle (examine g (joinAnalysis
        { job := low.job
          first := { channel := lowChannel g, bank := low.bank, snapshot := low.snapshot }
          second := some { channel := highChannel g, bank := high.bank, snapshot := high.snapshot } }
        (setPair g .idle (filled (highChannel g) high (filled (lowChannel g) low stored))))))

/-! ### Calibration -/

/-- R39: CALIBRATE adds one entry for a channel to its group queue, and the dispatcher then examines its head; while the
channel has an entry or its record is RUNNING it adds none and says so. That its reply carries the record's state before that
examination is the model's choice (log 22). R53, section 11.8: CAL_READ answers the record with the fields its state has, the
conditions, the reading and the pass in progress, and changes nothing else; a σ_f above 4,294,967,295 su, for which the four
bytes of its field have no room, is a free value there (log 28). A channel that is none is a BAD_FIELD of field 1 of either. -/
def Obligations.CalibrateAndCalReadAnswer : Prop :=
  ((∀ (tag : Byte) (c : ChannelId) (s : State), Ready s →
     let g := groupOfChannel c
     let state := calStateCode (recordOf s c)
     ((Entry.calibration c ∈ queueOf s g ∨ recordOf s c = .running) →
       exec (.calibrate tag (channelCode c)) s = .next (answered 0x84 tag [0x00, 1, state] s)) ∧
     (Entry.calibration c ∉ queueOf s g → recordOf s c ≠ .running →
       exec (.calibrate tag (channelCode c)) s = .next (answered 0x84 tag [0x00, 0, state]
         (followIdle (examine g (setQueue g (queueOf s g ++ [.calibration c]) s)))))) ∧
   ∀ (tag channel : Byte) (s : State), Ready s → 4 ≤ channel.toNat →
     exec (.calibrate tag channel) s = .next (answered 0x84 tag [0x05, 1] s)) ∧
  (∀ (tag : Byte) (c : ChannelId) (s : State), Ready s →
    let queued := (queueOf s (groupOfChannel c)).any fun e => decide (e = .calibration c)
    let reading := bytes16OfInt s.timebase.temperature
    let sigmaField (sigma : Nat) : List Byte :=
      if sigma ≤ 4294967295 then bytes32OfNat sigma else bytes32 (Config.floorFieldBeyond sigma)
    let answer (mask : Byte) (stale : Bool) (fields : List Byte) : List Byte :=
      let busy := (passOn s c).isSome
      [0x00, channelCode c, calStateCode (recordOf s c), mask ||| (if busy then 0x20 else 0),
        byteOfBits stale queued busy false false false false false] ++ reading ++ fields ++
      (match passOn s c with
        | some .codeDensity => [0]
        | some .floor => [1]
        | none => [])
    (recordOf s c = .uncal ∨ recordOf s c = .running →
      exec (.calRead tag (channelCode c)) s = .next (answered 0x85 tag (answer 0x00 false []) s)) ∧
    (∀ temperature low high table floor, recordOf s c = .valid temperature low high table floor →
      exec (.calRead tag (channelCode c)) s = .next (answered 0x85 tag
        (answer 0x1E (decide (20 < (s.timebase.temperature - temperature).natAbs))
          (bytes16OfInt temperature ++ [byteOfNat low, byteOfNat high] ++ table.flatMap bytes16OfNat ++ sigmaField floor))
        s)) ∧
    ∀ cause span floor, recordOf s c = .failed cause span floor →
      exec (.calRead tag (channelCode c)) s = .next (answered 0x85 tag
        (answer (byteOfBits true false span.isSome false floor.isSome false false false) false
          ([failCauseCode cause] ++
            (match span with
              | some (low, high) => [byteOfNat low, byteOfNat high]
              | none => []) ++
            match floor with
              | some sigma => sigmaField sigma
              | none => [])) s)) ∧
  ∀ (tag channel : Byte) (s : State), Ready s → 4 ≤ channel.toNat →
    exec (.calRead tag channel) s = .next (answered 0x85 tag [0x05, 1] s)

/-- R41: the code-density pass settles at its tick; from then on each code adds one to its histogram count and to the hit
count, up to and including the 65,536th, and no code is taken before the settling nor after the 65,536th. -/
def Obligations.CodeDensityPassCountsHits : Prop :=
  (∀ (g : Group) (ctx : SectionContext) (s : State), Calibrates s g ctx → ctx.pass = .codeDensity → ctx.settled = false →
    TicksPass s (ticksUntil s ctx.settlingEnd) →
    exec (.calSettlingEnd g) s = .next (setSection g (.busy { ctx with settled := true }) (atTick ctx.settlingEnd s))) ∧
  ∀ (g : Group) (code : Byte) (ctx : SectionContext) (s : State), sectionOf s g = .busy ctx → ctx.pass = .codeDensity →
    let hit : SectionContext :=
      { ctx with histogram := ctx.histogram.modify code.toNat (· + 1), hits := ctx.hits + 1 }
    (ctx.settled = true → ctx.hits < 65536 → exec (.codeDensityHit g code) s = .next (setSection g (.busy hit) s)) ∧
    (ctx.settled = true → ctx.hits = 65535 → exec (.histogramFull g code) s = .next (setSection g (.busy hit) s)) ∧
    (ctx.settled = false ∨ ctx.hits = 65536 →
      exec (.codeDensityHit g code) s = .next s ∧ exec (.histogramFull g code) s = .next s)

/-- R42, R43, R44, R49: with `low` and `high` the lowest and highest code hit, the end of the span and table computation fails
the calibration with NARROW_RANGE on a span below 128 codes, else with WIDE_CODE on a code of more than four mean widths,
and otherwise starts the floor pass on REF_LOOP with prescale ratio 1. -/
def Obligations.CodeDensityPassEndJudgesTheSpan : Prop :=
  ∀ (g : Group) (ctx : SectionContext) (low high : Nat) (s : State), sectionOf s g = .busy ctx → ctx.pass = .codeDensity →
    ctx.hits = 65536 → ctx.histogram.length = 256 → low ≤ high → high < 256 →
    0 < ctx.histogram.getD low 0 → 0 < ctx.histogram.getD high 0 →
    (∀ code, code < low ∨ high < code → ctx.histogram.getD code 0 = 0) →
    let c := ctx.channel
    let span := high - low + 1
    let failed (cause : FailCause) : State :=
      followIdle (raise .calDone (examine g (setChannel c { channelOfState s c with state := .idle }
        (setSection g .free (setRecord c (.failed cause (some (low, high)) none) s)))))
    (span < 128 → exec (.codeDensityPassEnd g) s = .next (failed .narrowRange)) ∧
    (128 ≤ span → (∃ h ∈ ctx.histogram, 4 * 65536 < h * span) →
      exec (.codeDensityPassEnd g) s = .next (failed .wideCode)) ∧
    (128 ≤ span → (∀ h ∈ ctx.histogram, h * span ≤ 4 * 65536) →
      exec (.codeDensityPassEnd g) s = .next (setChannel c
        { channelOfState s c with selector := .refLoop, ratio := 1, state := .calibrating }
        (setSection g (.busy { ctx with
          pass := .floor, spanLow := low, spanHigh := high, table := buildTable ctx.histogram, timestamps := []
          settlingEnd := s.timebase.coarse + 8000, settled := false, nextIndex := -2, previous := none, deadline := none }) s)))

/-- R43: the fine table of a histogram: 0 below the span, 4,095 above it, and inside it the middle of the time the code covers,
⌊(2C + H + 16) / 32⌋ with C the hits below the code and H its own, at most 4,095; 256 entries, never falling. -/
def Obligations.FineTableFollowsTheHistogram : Prop :=
  ∀ (histogram : List Nat) (low high : Nat), histogram.length = 256 → low ≤ high → high < 256 →
    0 < histogram.getD low 0 → 0 < histogram.getD high 0 →
    (∀ code, code < low ∨ high < code → histogram.getD code 0 = 0) →
    (buildTable histogram).length = 256 ∧
    (∀ code < 256, (buildTable histogram).getD code 0 =
      if code < low then 0 else if high < code then 4095
      else min 4095 ((2 * (histogram.take code).sum + histogram.getD code 0 + 16) / 32)) ∧
    ∀ code < 255, (buildTable histogram).getD code 0 ≤ (buildTable histogram).getD (code + 1) 0

/-- R33, R44, R46: the floor pass opens its start gate at its settling end, on that very tick, the first deadline being 160
ticks after it: that is the model's reading (log 13). Each REF_LOOP edge is then timestamped through the
working table, checked, kept as a discard or from index 0 on as a timestamp, and moves the deadline 160 ticks on; the
65,536th stops the edge timeout. -/
def Obligations.FloorPassTakesTimestamps : Prop :=
  (∀ (g : Group) (ctx : SectionContext) (s : State), Calibrates s g ctx → ctx.pass = .floor → ctx.settled = false →
    TicksPass s (ticksUntil s ctx.settlingEnd) →
    exec (.floorGateOpen g) s = .next (setChannel ctx.channel { channelOfState s ctx.channel with count := 0 }
      (setSection g (.busy { ctx with
        settled := true, nextIndex := -2, previous := none, deadline := some (ctx.settlingEnd + 160) })
        (atTick ctx.settlingEnd s)))) ∧
  ∀ (g : Group) (ticks : Nat) (code : Byte) (ctx : SectionContext) (s : State), TicksPass s ticks →
    sectionOf s g = .busy ctx → ctx.pass = .floor → ctx.deadline.isSome = true →
    let now : Tick := s.timebase.coarse + BitVec.ofNat 36 ticks
    let t : Timestamp := BitVec.ofNat 48 (now.toNat * 4096 + ctx.table.getD code.toNat 0)
    (∀ previous, ctx.previous = some previous →
      let interval := (t - previous).toNat * 10000000
      1228800000000 ≤ interval ∧ interval ≤ 2048000000000) →
    let taken : SectionContext :=
      { ctx with
        timestamps := if 0 ≤ ctx.nextIndex then ctx.timestamps ++ [t] else ctx.timestamps
        nextIndex := ctx.nextIndex + 1, previous := some t, deadline := some (now + 160) }
    (ctx.nextIndex + 1 ≠ 65536 →
      exec (.floorTimestamp g ticks code) s = .next (setSection g (.busy taken) (ticksLater ticks s))) ∧
    (ctx.nextIndex + 1 = 65536 →
      exec (.floorRecordFull g ticks code) s =
        .next (setSection g (.busy { taken with deadline := none }) (ticksLater ticks s)))

/-- R45, R49: in the floor pass an interval outside the period window fails the calibration with EDGE_FAULT, and a deadline
reached with NO_SIGNAL; the record keeps the span, the section is FREE, the channel IDLE, the dispatcher examines its head
and CAL_DONE is raised. -/
def Obligations.FloorPassFailuresEndTheCalibration : Prop :=
  ∀ (g : Group) (ctx : SectionContext) (s : State), sectionOf s g = .busy ctx → ctx.pass = .floor →
    let c := ctx.channel
    let failed (cause : FailCause) (u : State) : State :=
      followIdle (raise .calDone (examine g (setChannel c { channelOfState u c with state := .idle }
        (setSection g .free (setRecord c (.failed cause (some (ctx.spanLow, ctx.spanHigh)) none) u)))))
    (∀ (ticks : Nat) (code : Byte) (previous : Timestamp), TicksPass s ticks → ctx.deadline.isSome = true →
      ctx.previous = some previous →
      let now : Tick := s.timebase.coarse + BitVec.ofNat 36 ticks
      let t : Timestamp := BitVec.ofNat 48 (now.toNat * 4096 + ctx.table.getD code.toNat 0)
      ((t - previous).toNat * 10000000 < 1228800000000 ∨ 2048000000000 < (t - previous).toNat * 10000000) →
      exec (.floorTimestamp g ticks code) s = .next (failed .edgeFault (ticksLater ticks s))) ∧
    ∀ deadline, Calibrates s g ctx → ctx.settled = true → ctx.deadline = some deadline →
      TicksPass s (ticksUntil s deadline) →
      exec (.floorEdgeTimeout g) s = .next (failed .noSignal (atTick deadline s))

/-- R46 to R49: σ_f is the root of the mean square of the TIE of the 65,536 floor timestamps, to the nearest integer with ties
up; the floor computation ends with the record VALID, at the present reading, with the span, the table and σ_f, when σ_f is
at most 4,000 su, and FAILED with FLOOR_HIGH and σ_f otherwise. -/
def Obligations.FloorComputationDecidesTheRecord : Prop :=
  ∀ (g : Group) (ctx : SectionContext) (s : State), sectionOf s g = .busy ctx → ctx.pass = .floor →
    ctx.timestamps.length = 65536 →
    let c := ctx.channel
    let root : ℝ := Real.sqrt ((∑ k ∈ Finset.range 65536, ((tieOf ctx.timestamps).getD k 0 : ℝ) ^ 2) / 65536)
    ∃ sigma : Nat, (sigma : ℝ) - 1 / 2 ≤ root ∧ root < sigma + 1 / 2 ∧
      let record : CalRecord :=
        if sigma ≤ 4000 then .valid s.timebase.temperature ctx.spanLow ctx.spanHigh ctx.table sigma
        else .failed .floorHigh (some (ctx.spanLow, ctx.spanHigh)) (some sigma)
      exec (.floorComputationEnd g) s = .next (followIdle (raise .calDone (examine g
        (setChannel c { channelOfState s c with state := .idle } (setSection g .free (setRecord c record s))))))

/-! ### Dispatch -/

/-- R68: a dispatcher goes on until its queue is empty or its head cannot run; it takes entries from the head only, and leaves
the other group's queue, the results, the limits and the timebase alone. R33, R38, R40, R72: a calibration entry at the head
runs when its channel is IDLE, the reference LOCKED and the section FREE: the section becomes BUSY with an empty histogram
and a settling end 8,000 ticks on, the record RUNNING, and the channel CALIBRATING on DITHER; otherwise it waits and holds
back the queue. -/
def Obligations.DispatchersExamineTheirHeads : Prop :=
  (∀ (g h : Group) (s : State),
     examineHead g (examine g s) = none ∧ queueOf (examine g s) g <:+ queueOf s g ∧
     (h ≠ g → queueOf (examine g s) h = queueOf s h) ∧ (examine g s).results = s.results ∧
     (examine g s).limits = s.limits ∧ (examine g s).timebase = s.timebase) ∧
  ∀ (g : Group) (c : ChannelId) (rest : List Entry) (s : State), queueOf s g = .calibration c :: rest →
    let runs := (channelOfState s c).state = .idle ∧ s.timebase.refState = .locked ∧ sectionOf s g = .free
    (¬runs → examine g s = s) ∧
    (runs → examineHead g s = some
      (setChannel c { channelOfState s c with selector := .dither, state := .calibrating } (setRecord c .running
        (setSection g (.busy
          { channel := c, pass := .codeDensity, histogram := List.replicate 256 0, hits := 0, spanLow := 0, spanHigh := 0
            table := [], timestamps := [], settlingEnd := s.timebase.coarse + 8000, settled := false, nextIndex := -2
            previous := none, deadline := none }) (setQueue g rest s)))))

/-- R69 to R71, R74: which channels a QUEUED job goes to. A channel qualifies when it is IDLE with a VALID record and a FREE
bank while the reference is LOCKED; a named channel or a pair must qualify; for ANY, two FREE banks go before one and then
the lower number. A HELD job, or one without its channels, waits and holds back the queue. -/
def Obligations.ChannelChoiceFollowsTheRules : Prop :=
  ∀ (g : Group) (j : Job) (s : State),
    let fit (c : ChannelId) : Bool :=
      decide ((channelOfState s c).state = .idle) && isValid (recordOf s c) &&
        (decide ((channelOfState s c).bank0.state = .free) || decide ((channelOfState s c).bank1.state = .free)) &&
        decide (s.timebase.refState = .locked)
    let both (c : ChannelId) : Bool :=
      decide ((channelOfState s c).bank0.state = .free) && decide ((channelOfState s c).bank1.state = .free)
    let low := lowChannel g
    let high := highChannel g
    (j.state ≠ .queued → channelsFor s g j = none) ∧
    (j.state = .queued →
      (j.mode = .paired → channelsFor s g j = if fit low && fit high then some [low, high] else none) ∧
      (∀ c, j.mode = .single → j.choice = some c → channelsFor s g j = if fit c then some [c] else none) ∧
      (j.mode = .single → j.choice = none → channelsFor s g j =
        if fit low && fit high then some [if both high && !both low then high else low]
        else if fit low then some [low] else if fit high then some [high] else none)) ∧
    (∀ rest, queueOf s g = .job j.id j.site :: rest → jobAt s j.site = some j → channelsFor s g j = none →
      examine g s = s)

/-- R20, R21, R26, R60, R73: a job entry at the head whose channels are chosen is dispatched: it leaves the queue, the job is
SETTLING with its channels, and each channel takes the site, the ratio P, bank 0 if FREE and else bank 1, and a capture
context with the settling end 20 µs plus the settle time on, T and the snapshot of its calibration; a pair's pair unit
takes the job. -/
def Obligations.DispatchTakesTheChannels : Prop :=
  ∀ (g : Group) (j : Job) (rest : List Entry) (s : State), queueOf s g = .job j.id j.site :: rest →
    jobAt s j.site = some j →
    let length := match j.mode with
      | .single => j.length
      | .paired => j.length + 1
    let context (c : ChannelId) : CaptureContext :=
      { job := j.id, site := j.site, mode := j.mode, prescale := j.prescale, fNom := j.fNom, recordLength := length
        bank := if (channelOfState s c).bank0.state = .free then 0 else 1
        settlingEnd := s.timebase.coarse + BitVec.ofNat 36 (8000 + 400 * j.settle)
        nextIndex := -2, previous := none
        timeout := max 4 ((1600000000 * j.prescale + j.fNom - 1) / j.fNom), deadline := none
        snapshot := { floor := recordFloor (recordOf s c), stale := isStale s.timebase.temperature (recordOf s c) } }
    let taken (c : ChannelId) : Channel :=
      { withBank (channelOfState s c) (context c).bank { state := .filling, record := [] } with
        selector := .site j.site, ratio := j.prescale, state := .settling, context := some (context c) }
    let dispatched (channels : List ChannelId) : State :=
      setJob j.site (some { j with channels, state := .settling }) (setQueue g rest s)
    (∀ c, j.mode = .single → channelsFor s g j = some [c] →
      examineHead g s = some (setChannel c (taken c) (dispatched [c]))) ∧
    ∀ low high, j.mode = .paired → channelsFor s g j = some [low, high] → low ≠ high →
      examineHead g s = some (setPair g (.settling j.id false false) (setChannel high (taken high)
        (setChannel low (taken low) (dispatched [low, high]))))

/-! ### Trigger -/

/-- R75, R81 to R83, R87: a line level new to the filter starts a qualification at the active level and abandons one at the
inactive level, and the first level sensed after a reset is no change; a qualification counts the periods at which the line
stays; its 25th completes it. That TRIGGER_LINE_CHANGE to the level already held changes nothing, and that QUALIFIED_EDGE
completes a qualification at any count, is the model's choice (logs 3 and 17). A completed qualification that finds the trigger ARMED disarms it, makes every HELD job
QUEUED, raises TRIGGER_TAKEN and has both dispatchers examine their heads; one that finds it DISARMED does nothing else. -/
def Obligations.TriggerQualifiesAndReleasesHeldJobs : Prop :=
  (∀ (level : Level) (s : State),
    let active : Level := if s.trigger.polarity = .rising then .high else .low
    (s.trigger.sensed = true → level ≠ s.trigger.lineLevel →
      exec (.triggerLineChange level) s = .next { s with trigger :=
        { s.trigger with lineLevel := level, qualification := if level = active then some 0 else none } }) ∧
    (s.trigger.sensed = true → level = s.trigger.lineLevel → exec (.triggerLineChange level) s = .next s) ∧
    (s.trigger.sensed = false →
      exec (.triggerLineChange level) s = .next { s with trigger := { s.trigger with lineLevel := level, sensed := true } })) ∧
  (∀ s : State, s.trigger.qualification.isSome = true → s.trigger.state = .disarmed →
    exec .qualifiedEdge s = .next { s with trigger := { s.trigger with qualification := none } }) ∧
  (∀ s : State, s.trigger.qualification.isSome = true → s.trigger.state = .armed →
    let release (j : Job) : Job := if j.state = .held then { j with state := .queued } else j
    exec .qualifiedEdge s = .next (followIdle (examine .b (examine .a (raise .triggerTaken
      { s with
        jobs := s.jobs.map (Option.map release)
        trigger := { s.trigger with state := .disarmed, qualification := none } }))))) ∧
  ∀ (n : Nat) (s : State), s.trigger.sensed = true → s.trigger.qualification = some n →
    (n + 1 ≠ 25 → senseTrigger s.trigger.lineLevel s =
      { s with trigger := { s.trigger with qualification := some (n + 1) } }) ∧
    (n + 1 = 25 → exec .qualifiedEdge s = .next (senseTrigger s.trigger.lineLevel s))

/-- R84, R85: TRIGGER_CONFIG sets the polarity of a DISARMED trigger, abandoning a qualification when it changes, and refuses
with TRIGGER_ARMED otherwise; a polarity that is none is a BAD_FIELD of field 1 first. TRIGGER_ARM and TRIGGER_DISARM set
the trigger state and answer the state found and the state now held. -/
def Obligations.TriggerRequestsSetTheTrigger : Prop :=
  (∀ (tag polarity : Byte) (s : State), Ready s → 2 ≤ polarity.toNat →
    exec (.triggerConfig tag polarity) s = .next (answered 0x8F tag [0x05, 1] s)) ∧
  ∀ (tag : Byte) (polarity : Edge) (s : State), Ready s →
    (s.trigger.state = .armed →
      exec (.triggerConfig tag (edgeCode polarity)) s = .next (answered 0x8F tag [0x38] s)) ∧
    (s.trigger.state = .disarmed →
      exec (.triggerConfig tag (edgeCode polarity)) s = .next (answered 0x8F tag [0x00, edgeCode polarity]
        { s with trigger :=
            { s.trigger with
              polarity, qualification := if polarity = s.trigger.polarity then s.trigger.qualification else none } })) ∧
    exec (.triggerArm tag) s = .next (answered 0x90 tag [0x00, triggerStateCode s.trigger.state, 1]
      { s with trigger := { s.trigger with state := .armed } }) ∧
    exec (.triggerDisarm tag) s = .next (answered 0x91 tag [0x00, triggerStateCode s.trigger.state, 0]
      { s with trigger := { s.trigger with state := .disarmed } })

/-! ### Jobs -/

/-- R55, R56, R59, R188: the fields of a JOB_SUBMIT are judged in order, and the first that is not accepted is a BAD_FIELD with
its number that changes nothing; with all accepted, the record drafted holds the fields as submitted, with the P used: the
least P at 50 MHz or below, or the greatest at 10 kHz or above, where the one requested is out of range. -/
def Obligations.JobFieldsAreJudgedInOrder : Prop :=
  ∀ (tag : Byte) (f : JobFields) (s : State), Ready s → f.wellFormed = true →
    let band (b : BitVec 32 × BitVec 32) : Bool :=
      decide (1 ≤ b.1.toNat) && decide (b.1.toNat < b.2.toNat) && decide (b.2.toNat ≤ 500000000)
    let spot (o : BitVec 32) : Bool := decide (1 ≤ o.toNat) && decide (o.toNat ≤ 500000000)
    let checks : List (Nat × Bool) :=
      [(1, decide (f.site.toNat < 16)), (3, decide (f.mode.toNat < 2)),
        (4, decide (f.choice = 0xFF) ||
          (decide (f.mode = 0) && decide (f.choice.toNat < 4) && (decide (f.choice.toNat < 2) == decide (f.site.toNat < 8)))),
        (5, decide (1000000 ≤ f.fNom.toNat) && decide (f.fNom.toNat ≤ 1000000000)),
        (6, decide (1 ≤ f.prescale.toNat) && decide (f.prescale.toNat ≤ 4096)),
        (7, decide (8 ≤ f.length.toNat) && decide (f.length.toNat ≤ if f.mode = 0 then 1048576 else 1048575)),
        (8, decide (f.spectral.toNat < 2)),
        (9, if f.spectral = 0 then f.exponent.isNone
          else f.exponent.any fun e => decide (10 ≤ e.toNat) && decide (e.toNat ≤ 16)),
        (10, decide (f.bands.length ≤ 4) && f.bands.all band && (decide (f.spectral = 1) || f.bands.isEmpty)),
        (11, decide (f.spots.length ≤ 4) && f.spots.all spot && (decide (f.spectral = 1) || f.spots.isEmpty)),
        (12, decide (f.trigger.toNat < 2)), (13, decide (f.settle.toNat ≤ 1000000)),
        (14, decide (f.floorCorrection.toNat < 2) && !(decide (f.mode = 1) && decide (f.floorCorrection = 1))),
        (15, f.limit.all fun index => decide (index.toNat < 64))]
    (∀ check, checks.find? (fun check => !check.2) = some check →
      exec (.jobSubmit tag f) s = .next (answered 0x8C tag [0x05, byteOfNat check.1] s)) ∧
    (checks.all (fun check => check.2) = true → ∃ j, draftJob f = .ok j ∧
      j.site.val = f.site.toNat ∧ j.hostTag = f.hostTag ∧ modeCode j.mode = f.mode ∧
      (match j.choice with
        | none => f.choice = 0xFF
        | some c => channelCode c = f.choice) ∧
      j.fNom = f.fNom.toNat ∧
      j.prescale = (if 50000000 * f.prescale.toNat < f.fNom.toNat then (f.fNom.toNat + 49999999) / 50000000
        else if f.fNom.toNat < 10000 * f.prescale.toNat then f.fNom.toNat / 10000 else f.prescale.toNat) ∧
      j.adjusted = decide (j.prescale ≠ f.prescale.toNat) ∧ 1 ≤ j.prescale ∧ j.prescale ≤ 4096 ∧
      j.length = f.length.toNat ∧ byteOfBool j.spectral = f.spectral ∧ j.exponent = f.exponent.map BitVec.toNat ∧
      j.bands = f.bands.map (fun b => (b.1.toNat, b.2.toNat)) ∧ j.spots = f.spots.map BitVec.toNat ∧
      triggerFieldCode j.trigger = f.trigger ∧ j.settle = f.settle.toNat ∧
      byteOfBool j.floorCorrection = f.floorCorrection ∧ j.limit.map (fun index => index.val) = f.limit.map BitVec.toNat ∧
      j.state = (if f.trigger = 1 then .held else .queued) ∧ j.channels = [])

/-- R57, R58, R61, R62, R66, R143: with all fields accepted, a site with a live job refuses with SITE_BUSY, and a named limit
entry with the first check it fails, changing nothing. Otherwise the job takes the first id, from the counter on, that no
live job holds; the counter stands one beyond it, the entry's in-use count rises, the record is kept, its entry joins the
tail of its group queue, and the dispatcher examines its head. -/
def Obligations.JobSubmitIsRefusedOrAccepted : Prop :=
  ∀ (tag : Byte) (f : JobFields) (draft : Job) (s : State), Ready s → f.wellFormed = true → draftJob f = .ok draft →
    1 ≤ s.jobCounter → s.jobCounter ≤ 65535 →
    let fault := draft.limit.bind fun index =>
      limitFault s index draft.spectral draft.bands.length draft.spots.length draft.fNom
    let live := (liveJobs s).map (·.id)
    let beyond (id : Nat) : Nat := if id = 65535 then 1 else id + 1
    let g := groupOfSite draft.site
    ((jobAt s draft.site).isSome = true → exec (.jobSubmit tag f) s = .next (answered 0x8C tag [0x20] s)) ∧
    (∀ status, jobAt s draft.site = none → fault = some status →
      exec (.jobSubmit tag f) s = .next (answered 0x8C tag [statusCode status] s)) ∧
    (jobAt s draft.site = none → fault = none → ∃ steps ≤ 16,
      let id := beyond^[steps] s.jobCounter
      let limits : LimitTable :=
        match draft.limit with
        | none => s.limits
        | some index => { s.limits with inUse := s.limits.inUse.set index (inUseOf s index + 1) }
      (∀ earlier < steps, beyond^[earlier] s.jobCounter ∈ live) ∧ id ∉ live ∧ 1 ≤ id ∧ id ≤ 65535 ∧
      exec (.jobSubmit tag f) s = .next (answered 0x8C tag
        ([0x00] ++ bytes16OfNat id ++ bytes16OfNat draft.prescale ++ [byteOfBool draft.adjusted, jobStateCode draft.state])
        (followIdle (examine g (setQueue g (queueOf s g ++ [.job id draft.site]) (setJob draft.site (some { draft with id })
          { s with jobCounter := beyond id, limits }))))))

/-- R76, section 11.10: JOB_STATUS answers the live job's record with its group and queue position while HELD or QUEUED, its
channels once dispatched and its place in the analysis queue in ANALYSIS_WAIT, each FFh elsewhere; a site without a live
job answers NO_JOB, and a site that is none is a BAD_FIELD of field 1. Nothing changes. -/
def Obligations.JobStatusAnswersTheLiveJob : Prop :=
  (∀ (tag site : Byte) (s : State), Ready s → 16 ≤ site.toNat →
    exec (.jobStatus tag site) s = .next (answered 0x8D tag [0x05, 1] s)) ∧
  ∀ (tag : Byte) (site : Site) (s : State), Ready s →
    (jobAt s site = none → exec (.jobStatus tag (siteCode site)) s = .next (answered 0x8D tag [0x30] s)) ∧
    ∀ j, jobAt s site = some j → j.site = site →
      let answer (group position place : Byte) : State :=
        answered 0x8D tag
          (([0x00] : List Byte) ++ bytes16OfNat j.id ++ bytes32 j.hostTag ++ [modeCode j.mode, jobStateCode j.state]
            ++ bytes16OfNat j.prescale ++ [byteOfBool j.adjusted] ++ bytes32OfNat j.length
            ++ [triggerFieldCode j.trigger, (match j.limit with
                | some index => byteOfNat index.val
                | none => 0xFF), group, position]
            ++ (match j.channels with
                | [] => [0xFF, 0xFF]
                | [c] => [channelCode c, 0xFF]
                | c :: d :: _ => [channelCode c, channelCode d]) ++ [place]) s
      (∀ before after, j.state = .held ∨ j.state = .queued →
        queueOf s (groupOfSite site) = before ++ .job j.id site :: after → Entry.job j.id site ∉ before →
        exec (.jobStatus tag (siteCode site)) s =
          .next (answer (groupCode (groupOfSite site)) (byteOfNat (before.length + 1)) 0xFF)) ∧
      (j.state = .settling ∨ j.state = .capturing ∨ j.state = .analysing →
        exec (.jobStatus tag (siteCode site)) s = .next (answer 0xFF 0xFF 0xFF)) ∧
      ∀ before item after, j.state = .analysisWait → s.analysisQueue = before ++ item :: after → item.job = j.id →
        (∀ other ∈ before, other.job ≠ j.id) →
        exec (.jobStatus tag (siteCode site)) s = .next (answer 0xFF 0xFF (byteOfNat (before.length + 1)))

/-- R32, R67, R78, R90, R94, R95: JOB_CANCEL of a live job stops its work by its state (the queue entry leaves, the capture
stops, the analysis item leaves with its banks FREE, or the engine abandons it and takes the next), ends it CANCELLED, and
has the dispatcher examine its head; the reply carries the id and the state found. A site without a live job answers
NO_JOB, and a site that is none is a BAD_FIELD of field 1. -/
def Obligations.JobCancelStopsTheWork : Prop :=
  (∀ (tag site : Byte) (s : State), Ready s → 16 ≤ site.toNat →
    exec (.jobCancel tag site) s = .next (answered 0x8E tag [0x05, 1] s)) ∧
  ∀ (tag : Byte) (site : Site) (s : State), Ready s →
    (jobAt s site = none → exec (.jobCancel tag (siteCode site)) s = .next (answered 0x8E tag [0x30] s)) ∧
    ∀ j, jobAt s site = some j → j.site = site →
      let g := groupOfSite site
      let ended (stopped : State) : State :=
        answered 0x8E tag ([0x00] ++ bytes16OfNat j.id ++ [jobStateCode j.state])
          (followIdle (examine g (endJob j.id .cancelled stopped)))
      (∀ before after, j.state = .held ∨ j.state = .queued → queueOf s g = before ++ .job j.id site :: after →
        Entry.job j.id site ∉ before ++ after →
        exec (.jobCancel tag (siteCode site)) s = .next (ended (setQueue g (before ++ after) s))) ∧
      (∀ c rest, j.state = .settling ∨ j.state = .capturing → j.channels = c :: rest →
        exec (.jobCancel tag (siteCode site)) s = .next (ended (stopCapture c j.mode s))) ∧
      (∀ before item after, j.state = .analysisWait → s.analysisQueue = before ++ item :: after → item.job = j.id →
        (∀ other ∈ before ++ after, other.job ≠ j.id) →
        exec (.jobCancel tag (siteCode site)) s =
          .next (ended (freeItemBanks item { s with analysisQueue := before ++ after }))) ∧
      ∀ item, j.state = .analysing → engineItem s.engine = some item →
        exec (.jobCancel tag (siteCode site)) s = .next (ended (takeItem (freeItemBanks item { s with engine := .idle })))

/-- R65, R147, R154 to R157: a job that the job block ends posts a record with the status, no figure, no L and no flag but
PRESCALE_ADJUSTED and OVERWRITTEN, with the retest bin of its limit entry or, without one, no verdict and no bin; the slot
becomes NEW, OVERWRITTEN marks a NEW slot that is replaced, the site goes to the tail of the completion list, RESULT_READY
is raised when the list was empty, the in-use count falls by one, and the site is free. -/
def Obligations.JobBlockEndingPostsTheRecord : Prop :=
  ∀ (j : Job) (status : Ending) (s : State), IdsDistinct s → jobAt s j.site = some j →
    (status = .refLost ∨ status = .cancelled ∨ (∃ c, status = .noSignal c) ∨ ∃ index c, status = .edgeFault index c) →
    let overwritten := isNew (slotAt s j.site)
    let record (verdict : Verdict) (bin : Option Nat) : ResultRecord :=
      { job := j.id, site := j.site, hostTag := j.hostTag, status, mode := j.mode, channels := j.channels
        prescale := j.prescale, length := j.length, segmentExponent := none
        flags := { prescaleAdjusted := j.adjusted, overwritten }, figures := Vector.replicate 14 {}, verdict
        failing := [], bin }
    let ended (r : ResultRecord) (limits : LimitTable) : State :=
      { s with
        results :=
          { slots := s.results.slots.set j.site (.new r)
            completion := s.results.completion.filter (· != j.site) ++ [j.site] }
        notices := if s.results.completion = [] then raiseIn s.notices .resultReady else s.notices
        limits, jobs := s.jobs.set j.site none }
    (j.limit = none → endJob j.id status s = ended (record .nothing none) s.limits) ∧
    ∀ index e, j.limit = some index → s.limits.entries[index] = some e →
      endJob j.id status s = ended (record .retest (some e.retestBin))
        { s.limits with inUse := s.limits.inUse.set index (inUseOf s index - 1) }

/-! ### Limits and lots -/

/-- R135, R138, R139, R188: the fields of a LIMIT_WRITE are judged in order, and the first that is not accepted is a BAD_FIELD
with its number; an index at or beyond the extent is then refused with LIMIT_RANGE and an entry in use with LIMIT_IN_USE;
a refused request changes nothing. An accepted one writes the entry whole, and says whether it was defined before. -/
def Obligations.LimitWriteJudgesItsFieldsAndWritesWhole : Prop :=
  ∀ (tag : Byte) (f : LimitFields) (s : State), Ready s →
    let offset (x : Option (BitVec 32)) : Bool :=
      x.all fun b => decide (-20000000 ≤ b.toInt) && decide (b.toInt ≤ 20000000)
    let spot (x : Option (BitVec 16)) : Bool :=
      x.all fun b => decide (f.kind = 1) && decide (-20000 ≤ b.toInt) && decide (b.toInt ≤ 0)
    let band (x : Option (BitVec 32)) : Bool := decide (f.kind = 1) || x.isNone
    let checks : List (Nat × Bool) :=
      [(1, decide (f.index.toNat < 64)), (2, decide (f.kind.toNat < 2)), (3, decide (f.scope.toNat < 2)),
        (4, if f.scope = 1 then f.lot.any (fun tag => decide (tag ≠ 0)) else f.lot.isNone),
        (5, decide (1000000 ≤ f.fMin.toNat) && decide (f.fMin.toNat ≤ 1000000000)),
        (6, decide (f.fMin.toNat ≤ f.fMax.toNat) && decide (f.fMax.toNat ≤ 1000000000)),
        (7, offset f.offsetMin),
        (8, offset f.offsetMax && f.offsetMin.all fun low => f.offsetMax.all fun high => decide (low.toInt ≤ high.toInt)),
        (13, f.tieRms.isSome || f.tiePp.isSome || f.perRms.isSome || f.c2cRms.isSome || f.c2cPeak.isSome),
        (14, band f.band0), (15, band f.band1), (16, band f.band2), (17, band f.band3),
        (18, spot f.spot0), (19, spot f.spot1), (20, spot f.spot2), (21, spot f.spot3),
        (22, decide (f.stale.toNat < 2)), (23, decide (f.passBin.toNat < 16)), (24, decide (f.retestBin.toNat < 16))]
        ++ (List.finRange 14).map fun i => (25 + i.val, decide (f.failBins[i].toNat < 16))
    (∀ check, checks.find? (fun check => !check.2) = some check →
      exec (.limitWrite tag f) s = .next (answered 0x87 tag [0x05, byteOfNat check.1] s)) ∧
    (checks.all (fun check => check.2) = true → ∃ (index : Fin 64) (e : LimitSet), index.val = f.index.toNat ∧
      limitKindCode e.kind = f.kind ∧ byteOfBool e.lot.isSome = f.scope ∧ e.lot = f.lot.map BitVec.toNat ∧
      e.fMin = f.fMin.toNat ∧ e.fMax = f.fMax.toNat ∧ e.offsetMin = f.offsetMin.map BitVec.toInt ∧
      e.offsetMax = f.offsetMax.map BitVec.toInt ∧
      e.maxima.toList = [f.tieRms, f.tiePp, f.perRms, f.c2cRms, f.c2cPeak, f.band0, f.band1, f.band2, f.band3].map
          (Option.map fun b => (b.toNat : Int)) ++ [f.spot0, f.spot1, f.spot2, f.spot3].map (Option.map BitVec.toInt) ∧
      stalePolicyCode e.stalePolicy = f.stale ∧ e.passBin = f.passBin.toNat ∧ e.retestBin = f.retestBin.toNat ∧
      e.failBins = f.failBins.map BitVec.toNat ∧
      (s.limits.extent ≤ index.val → exec (.limitWrite tag f) s = .next (answered 0x87 tag [0x21] s)) ∧
      (index.val < s.limits.extent → 0 < inUseOf s index →
        exec (.limitWrite tag f) s = .next (answered 0x87 tag [0x26] s)) ∧
      (index.val < s.limits.extent → inUseOf s index = 0 →
        exec (.limitWrite tag f) s = .next (answered 0x87 tag
          [0x00, f.index, byteOfBool (s.limits.entries[index]).isSome]
          { s with limits := { s.limits with entries := s.limits.entries.set index (some e) } })))

/-- R140 to R142: LIMIT_READ answers a defined entry's in-use count and fields and changes nothing; after a LIMIT_WRITE that
was answered OK, while the table stands as it left it, they are the fields written. LIMIT_DELETE makes a
defined entry that is not in use undefined; LIMIT_EXTENT sets the extent unless a defined entry stands at or above it, then
answering the highest defined index. An index of 64 or more, or an extent outside 1 … 64, is a BAD_FIELD of field 1. -/
def Obligations.LimitReadDeleteAndExtent : Prop :=
  (∀ (tag index : Byte) (s : State), Ready s → 64 ≤ index.toNat →
    exec (.limitRead tag index) s = .next (answered 0x88 tag [0x05, 1] s) ∧
    exec (.limitDelete tag index) s = .next (answered 0x89 tag [0x05, 1] s)) ∧
  (∀ (tag tag' : Byte) (f : LimitFields) (rest : List Byte) (s t u : State), Ready s → exec (.limitWrite tag f) s = .next t →
    t.link.server = .replying (makeFrame 0x87 tag (0x00 :: rest)) → Ready u → u.limits = t.limits →
    exec (.limitRead tag' f.index) u = .next (answered 0x88 tag' ([0x00, 0] ++ limitPayload f) u)) ∧
  (∀ (tag : Byte) (index : Fin 64) (s : State), Ready s →
    let byte := byteOfNat index.val
    (s.limits.extent ≤ index.val →
      exec (.limitRead tag byte) s = .next (answered 0x88 tag [0x21] s) ∧
      exec (.limitDelete tag byte) s = .next (answered 0x89 tag [0x21] s)) ∧
    (index.val < s.limits.extent → s.limits.entries[index] = none →
      exec (.limitRead tag byte) s = .next (answered 0x88 tag [0x22] s) ∧
      exec (.limitDelete tag byte) s = .next (answered 0x89 tag [0x22] s)) ∧
    ∀ e, index.val < s.limits.extent → s.limits.entries[index] = some e →
      exec (.limitRead tag byte) s = .next (answered 0x88 tag
        ([0x00, byteOfNat (inUseOf s index)] ++ limitPayload (limitFieldsOf index e)) s) ∧
      (0 < inUseOf s index → exec (.limitDelete tag byte) s = .next (answered 0x89 tag [0x26] s)) ∧
      (inUseOf s index = 0 → exec (.limitDelete tag byte) s = .next (answered 0x89 tag [0x00]
        { s with limits := { s.limits with entries := s.limits.entries.set index none } }))) ∧
  ∀ (tag extent : Byte) (s : State), Ready s →
    ((extent = 0 ∨ 64 < extent.toNat) → exec (.limitExtent tag extent) s = .next (answered 0x86 tag [0x05, 1] s)) ∧
    (1 ≤ extent.toNat → extent.toNat ≤ 64 →
      ((∀ index : Fin 64, extent.toNat ≤ index.val → s.limits.entries[index] = none) →
        exec (.limitExtent tag extent) s = .next (answered 0x86 tag [0x00, extent]
          { s with limits := { s.limits with extent := extent.toNat } })) ∧
      ∀ highest : Fin 64, extent.toNat ≤ highest.val → (s.limits.entries[highest]).isSome = true →
        (∀ index : Fin 64, highest < index → s.limits.entries[index] = none) →
        exec (.limitExtent tag extent) s = .next (answered 0x86 tag [0x27, byteOfNat highest.val] s))

/-- R57, R134, R136, R137, R145: checks 3 to 7 of a named limit entry, in order: the extent, whether it is defined, its kind
against the job's spectral field and lists, its lot against the current lot, and its frequency range. R144, R146: LIMIT_PROBE
answers their outcome and, for a defined entry within the extent, its in-use count, and changes nothing; LOT_OPEN makes its
tag the current lot when no job is live, and answers the tag held before. The first field that is not accepted is a
BAD_FIELD with its number. -/
def Obligations.LimitChecksProbeAndLotOpen : Prop :=
  (∀ (s : State) (index : Fin 64) (spectral : Bool) (bands spots fNom : Nat),
     let outcome := limitFault s index spectral bands spots fNom
     (s.limits.extent ≤ index.val → outcome = some .limitRange) ∧
     (index.val < s.limits.extent → s.limits.entries[index] = none → outcome = some .limitAbsent) ∧
     ∀ e, index.val < s.limits.extent → s.limits.entries[index] = some e →
       let unsuited := (e.kind = .spectral ∧ spectral = false) ∨
         (∃ b : Fin 4, bands ≤ b.val ∧ (e.maxima[5 + b.val]).isSome = true) ∨
         ∃ i : Fin 4, spots ≤ i.val ∧ (e.maxima[9 + i.val]).isSome = true
       let otherLot := ∃ tag, e.lot = some tag ∧ tag ≠ s.limits.currentLot
       (unsuited → outcome = some .limitKind) ∧ (¬unsuited → otherLot → outcome = some .limitScope) ∧
       (¬unsuited → ¬otherLot → fNom < e.fMin ∨ e.fMax < fNom → outcome = some .limitFreq) ∧
       (¬unsuited → ¬otherLot → e.fMin ≤ fNom → fNom ≤ e.fMax → outcome = none)) ∧
  (∀ (tag index spectral bands spots : Byte) (fNom : BitVec 32) (s : State), Ready s →
    let count (b : Byte) : Bool := decide (b.toNat ≤ 4) && (decide (spectral = 1) || decide (b = 0))
    let checks : List (Byte × Bool) :=
      [(1, decide (index.toNat < 64)), (2, decide (spectral.toNat < 2)), (3, count bands), (4, count spots),
        (5, decide (1000000 ≤ fNom.toNat) && decide (fNom.toNat ≤ 1000000000))]
    (∀ check, checks.find? (fun check => !check.2) = some check →
      exec (.limitProbe tag index spectral bands spots fNom) s = .next (answered 0x8A tag [0x05, check.1] s)) ∧
    ∀ i : Fin 64, i.val = index.toNat → checks.all (fun check => check.2) = true →
      let outcome : Byte := match limitFault s i (decide (spectral = 1)) bands.toNat spots.toNat fNom.toNat with
        | some status => statusCode status
        | none => 0x00
      let inUse : Byte :=
        if i.val < s.limits.extent ∧ (s.limits.entries[i]).isSome = true then byteOfNat (inUseOf s i) else 0xFF
      exec (.limitProbe tag index spectral bands spots fNom) s = .next (answered 0x8A tag [0x00, outcome, inUse] s)) ∧
  ∀ (tag : Byte) (lot : BitVec 32) (s : State), Ready s →
    (lot = 0 → exec (.lotOpen tag lot) s = .next (answered 0x8B tag [0x05, 1] s)) ∧
    (lot ≠ 0 → liveJobs s ≠ [] → exec (.lotOpen tag lot) s = .next (answered 0x8B tag [0x28] s)) ∧
    (lot ≠ 0 → liveJobs s = [] →
      exec (.lotOpen tag lot) s = .next (answered 0x8B tag
        ([0x00] ++ bytes32 lot ++ bytes32OfNat s.limits.currentLot)
        { s with limits := { s.limits with currentLot := lot.toNat } }))

/-- R147 to R150: the verdict rule. No limit entry gives NONE; a status other than COMPLETE and OFF_NOMINAL, or a stale result
under policy RETEST, gives RETEST; else any present checked figure beyond its limit gives FAIL with the fail bin of the
first of them and the set of all of them; else an absent checked figure gives INCOMPLETE with the retest bin; else PASS. -/
def Obligations.VerdictRule : Prop :=
  ∀ (e : LimitSet) (status : Ending) (stale : Bool) (figures : Figures),
    let above (limit : Option Int) (value : Int) := ∃ l, limit = some l ∧ l < value
    let below (limit : Option Int) (value : Int) := ∃ l, limit = some l ∧ value < l
    let maximum (name : FigureName) : Option Int :=
      if name = .freqOffset then none else (e.maxima[(figureIndex name).val - 1]?).join
    let fails (name : FigureName) := ∃ value, (figures[figureIndex name]).value = some value ∧
      (if name = .freqOffset then below e.offsetMin value ∨ above e.offsetMax value else above (maximum name) value)
    let missing (name : FigureName) := (figures[figureIndex name]).value = none ∧
      (if name = .freqOffset then e.offsetMin ≠ none ∨ e.offsetMax ≠ none else maximum name ≠ none)
    let compared := (status = .complete ∨ status = .offNominal) ∧ ¬(stale = true ∧ e.stalePolicy = .retest)
    judge none status stale figures = { verdict := .nothing, failing := [], bin := none } ∧
    (¬compared → judge (some e) status stale figures = { verdict := .retest, failing := [], bin := some e.retestBin }) ∧
    (compared → (∀ name, ¬fails name) → (∃ name, missing name) →
      judge (some e) status stale figures = { verdict := .incomplete, failing := [], bin := some e.retestBin }) ∧
    (compared → (∀ name, ¬fails name) → (∀ name, ¬missing name) →
      judge (some e) status stale figures = { verdict := .pass, failing := [], bin := some e.passBin }) ∧
    ∀ first, compared → fails first → (∀ name, figureIndex name < figureIndex first → ¬fails name) →
      ∃ failing, judge (some e) status stale figures =
          { verdict := .fail, failing, bin := some e.failBins[figureIndex first] } ∧
        (∀ name, name ∈ failing ↔ fails name) ∧ (failing.map figureIndex).Pairwise (· < ·)

/-! ### Results and notices -/

/-- R154, section 11.6: the bytes of a result record, in the order of its table: the fixed fields, the presence mask, the set of
figures present and the failing set in figure order, a flags byte for each figure, and then the fields that are present.
R156, R158 to R160: RESULT_NEXT returns the record of the site at the head of the completion list, and
RESULT_READ that of a site's NEW or READ slot, each with the sites then left on the list; the slot becomes READ and its site
leaves the list. RESULT_CLEAR empties the slots it names and answers how many were NEW. What holds no record answers
NO_RESULT, and a site that is none is a BAD_FIELD of field 1. -/
def Obligations.ResultRequestsReturnAndClear : Prop :=
  (∀ r : ResultRecord,
    let bits (word : BitVec 16) (holds : FigureName → Prop) : Prop :=
      (∀ name, word.getLsbD (figureIndex name).val = true ↔ holds name) ∧ word.getLsbD 14 = false ∧ word.getLsbD 15 = false
    let detail : List Byte := match r.status with
      | .edgeFault index c => bytes32OfInt index ++ [byteOfNat c.val]
      | .noSignal c => [byteOfNat c.val]
      | _ => []
    let figure (i : Fin 14) : List Byte := match r.figures[i].value with
      | none => []
      | some value => if i.val < 10 then bytes32OfInt value else bytes16OfInt value
    let status : Byte := match r.status with
      | .complete => 0
      | .offNominal => 1
      | .pairSlip => 2
      | .edgeFault _ _ => 3
      | .noSignal _ => 4
      | .refLost => 5
      | .cancelled => 6
    let mode : Byte := match r.mode with
      | .single => 0
      | .paired => 1
    let verdict : Byte := match r.verdict with
      | .nothing => 0
      | .pass => 1
      | .fail => 2
      | .incomplete => 3
      | .retest => 4
    let recordFlags : Byte :=
      byteOfBits r.flags.prescaleAdjusted r.flags.segmentReduced r.flags.spectralSkipped r.flags.calStale r.flags.realigned
        r.flags.overwritten false false
    let mask : Byte :=
      byteOfBits (decide (detail ≠ [])) (decide (r.channels ≠ [])) r.segmentExponent.isSome r.bin.isSome
        false false false false
    ∃ present failing : BitVec 16,
      bits present (fun name => (r.figures[figureIndex name]).value.isSome = true) ∧ bits failing (fun name => name ∈ r.failing) ∧
      recordBytes r = bytes16OfNat r.job ++ [byteOfNat r.site.val] ++ bytes32 r.hostTag ++ [status, mode]
        ++ bytes16OfNat r.prescale ++ bytes32OfNat r.length ++ [recordFlags, verdict, mask]
        ++ bytes16 present ++ bytes16 failing
        ++ (List.finRange 14).map (fun i =>
            let f := r.figures[i].flags
            byteOfBits f.atFloor f.saturated f.bandClipped f.bandEmpty f.offsetClipped false false false)
        ++ detail ++ r.channels.map (fun c => byteOfNat c.val) ++ (r.segmentExponent.map byteOfNat).toList
        ++ (r.bin.map byteOfNat).toList ++ (List.finRange 14).flatMap figure) ∧
  (∀ (tag : Byte) (s : State), Ready s → s.results.completion = [] →
    exec (.resultNext tag) s = .next (answered 0x92 tag [0x40] s)) ∧
  (∀ (tag site : Byte) (s : State), Ready s → 16 ≤ site.toNat →
    exec (.resultRead tag site) s = .next (answered 0x93 tag [0x05, 1] s) ∧
    (site ≠ 0xFF → exec (.resultClear tag site) s = .next (answered 0x94 tag [0x05, 1] s))) ∧
  (∀ (tag : Byte) (site : Site) (s : State), Ready s →
    let others := s.results.completion.filter (· != site)
    let returned (r : ResultRecord) (left : List Site) : List Byte := [0x00, byteOfNat left.length] ++ recordBytes r
    (∀ r rest, s.results.completion = site :: rest → site ∉ rest → slotAt s site = .new r →
      exec (.resultNext tag) s = .next (answered 0x92 tag (returned r rest)
        { s with results := { slots := s.results.slots.set site (.read r), completion := rest } })) ∧
    (slotAt s site = .empty → exec (.resultRead tag (siteCode site)) s = .next (answered 0x93 tag [0x40] s)) ∧
    (∀ r, slotAt s site = .new r →
      exec (.resultRead tag (siteCode site)) s = .next (answered 0x93 tag (returned r others)
        { s with results := { slots := s.results.slots.set site (.read r), completion := others } })) ∧
    (∀ r, slotAt s site = .read r →
      exec (.resultRead tag (siteCode site)) s = .next (answered 0x93 tag (returned r s.results.completion) s)) ∧
    exec (.resultClear tag (siteCode site)) s = .next (answered 0x94 tag [0x00, if isNew (slotAt s site) then 1 else 0]
      { s with results := { slots := s.results.slots.set site .empty, completion := others } })) ∧
  ∀ (tag : Byte) (s : State), Ready s →
    exec (.resultClear tag 0xFF) s = .next (answered 0x94 tag
      [0x00, byteOfNat ((List.finRange 16).countP fun site => isNew (slotAt s site))]
      { s with results := { slots := Vector.replicate 16 .empty, completion := [] } })

/-- R162, R164: a cause makes a clear flag pending and, with its enable on, sets notice due, and is absorbed by a pending flag;
QUEUE_IDLE is raised exactly when the idle condition (both queues empty, every channel IDLE, the analysis queue empty, the
engine IDLE) goes from not holding to holding. R165 to R167, section 11.9: NOTICE_ENABLE replaces the five enables, sets
notice due when it turns on the enable of a pending flag (log 19), and answers the enables and the pending flags;
NOTICE_CLEAR clears the flags it names and answers those still pending. An enable that is neither on nor off is a BAD_FIELD
with its number, and a flag set with bit 5, 6 or 7 is a BAD_FIELD of field 1; neither changes anything. -/
def Obligations.NoticeFlagsLatchAndTheirRequests : Prop :=
  ((∀ (flag : NoticeFlag) (s : State),
     (flagOf s.notices.flags flag = true → raise flag s = s) ∧
     (flagOf s.notices.flags flag = false → ∃ flags,
       raise flag s = { s with notices :=
         { s.notices with flags, due := if flagOf s.notices.enables flag then true else s.notices.due } } ∧
       ∀ other, flagOf flags other = (decide (other = flag) || flagOf s.notices.flags other))) ∧
   ∀ s : State,
     let holds := s.queues.a = [] ∧ s.queues.b = [] ∧ (∀ c, (channelOfState s c).state = .idle) ∧ s.analysisQueue = [] ∧
       s.engine = .idle
     (¬holds → followIdle s = { s with notices := { s.notices with idleHolds := false } }) ∧
     (holds → s.notices.idleHolds = true → followIdle s = s) ∧
     (holds → s.notices.idleHolds = false →
       followIdle s = { raise .queueIdle s with notices := { (raise .queueIdle s).notices with idleHolds := true } })) ∧
  (∀ (tag e0 e1 e2 e3 e4 : Byte) (s : State), Ready s →
    let checks : List (Byte × Bool) :=
      [(1, decide (e0.toNat < 2)), (2, decide (e1.toNat < 2)), (3, decide (e2.toNat < 2)), (4, decide (e3.toNat < 2)),
        (5, decide (e4.toNat < 2))]
    let enables : FlagSet :=
      { resultReady := decide (e0 = 1), calDone := decide (e1 = 1), refChange := decide (e2 = 1)
        triggerTaken := decide (e3 = 1), queueIdle := decide (e4 = 1) }
    let turnedOn := ∃ flag, flagOf s.notices.flags flag = true ∧ flagOf s.notices.enables flag = false ∧
      flagOf enables flag = true
    let enabled (due : Bool) : State :=
      answered 0x95 tag [0x00, flagSetByte enables, flagSetByte s.notices.flags]
        { s with notices := { s.notices with enables, due } }
    (∀ check, checks.find? (fun check => !check.2) = some check →
      exec (.noticeEnable tag e0 e1 e2 e3 e4) s = .next (answered 0x95 tag [0x05, check.1] s)) ∧
    (checks.all (fun check => check.2) = true →
      (turnedOn → exec (.noticeEnable tag e0 e1 e2 e3 e4) s = .next (enabled true)) ∧
      (¬turnedOn → exec (.noticeEnable tag e0 e1 e2 e3 e4) s = .next (enabled s.notices.due)))) ∧
  ∀ (tag flags : Byte) (s : State), Ready s →
    let left : FlagSet :=
      { resultReady := s.notices.flags.resultReady && !flags.getLsbD 0
        calDone := s.notices.flags.calDone && !flags.getLsbD 1
        refChange := s.notices.flags.refChange && !flags.getLsbD 2
        triggerTaken := s.notices.flags.triggerTaken && !flags.getLsbD 3
        queueIdle := s.notices.flags.queueIdle && !flags.getLsbD 4 }
    (32 ≤ flags.toNat → exec (.noticeClear tag flags) s = .next (answered 0x96 tag [0x05, 1] s)) ∧
    (flags.toNat < 32 → exec (.noticeClear tag flags) s = .next (answered 0x96 tag [0x00, flagSetByte left]
      { s with notices := { s.notices with flags := left } }))

/-! ### Analysis -/

/-- R34, R89 to R91: an item joins the tail of the analysis queue with its job in ANALYSIS_WAIT; an IDLE engine with an item
waiting takes the head item, empties its working result and enters TIME_PASS with the job ANALYSING (that an emptied result
holds the status COMPLETE is the model's choice, log 25), and otherwise nothing moves; the banks an item gives up are FREE and empty, and every other bank is left alone. -/
def Obligations.EngineTakesItemsInOrder : Prop :=
  (∀ s : State, s.engine ≠ .idle ∨ s.analysisQueue = [] → takeItem s = s) ∧
  (∀ (item : Item) (rest : List Item) (s : State), s.engine = .idle → s.analysisQueue = item :: rest →
    takeItem s = setJobState item.job .analysing
      { s with
        analysisQueue := rest
        engine := .timePass item
          { status := .complete, flags := {}, segmentExponent := none, figures := Vector.replicate 14 {} } }) ∧
  (∀ (item : Item) (s : State), joinAnalysis item s =
    takeItem (setJobState item.job .analysisWait { s with analysisQueue := s.analysisQueue ++ [item] })) ∧
  ∀ (item : Item) (s : State), (∀ leg, item.second = some leg → leg.channel ≠ item.first.channel) →
    let t := freeItemBanks item s
    let held (c : ChannelId) (b : Fin 2) : Prop := ∃ leg, (leg = item.first ∨ item.second = some leg) ∧ leg.channel = c ∧ leg.bank = b
    (∀ c b, held c b → bankOf (channelOfState t c) b = { state := .free, record := [] }) ∧
    (∀ c b, ¬held c b → bankOf (channelOfState t c) b = bankOf (channelOfState s c) b) ∧
    ∀ c, { channelOfState t c with bank0 := (channelOfState s c).bank0, bank1 := (channelOfState s c).bank1 } = channelOfState s c

/-- R92, R97, R100, R110, R111, R114, R116, R117: the end of the time pass. A pair is aligned by the signed difference of its
first timestamps against half an expected interval, or fails with PAIR_SLIP; a FREQ_OFFSET beyond 20,000,000 ppb gives
OFF_NOMINAL with that figure alone; otherwise the six figures are formed, and a spectral job goes on to the spectral pass
with its segment length fixed, or is marked SPECTRAL_SKIPPED when N is below 1,024. -/
def Obligations.TimePassEndFormsTheWorkingResult : Prop :=
  ∀ (item : Item) (empty : Working) (j : Job) (s : State), s.engine = .timePass item empty →
    jobWithId s item.job = some j →
    let next (engine : Engine) : State := { s with engine }
    let record (leg : Leg) := (bankOf (channelOfState s leg.channel) leg.bank).record
    let stale := item.first.snapshot.stale || item.second.any fun leg => leg.snapshot.stale
    let flags (realigned : Bool) : RecordFlags := { prescaleAdjusted := j.adjusted, calStale := stale, realigned }
    let requested := j.exponent.getD 10
    let exponent := if 2 ^ requested ≤ j.length then requested else Nat.log2 j.length
    let ended (t : List Timestamp) (tie : Figure) (floorSquare : Nat) (realigned : Bool) : Engine :=
      let offset := frequencyOffset (meanInterval t) j.fNom j.prescale
      let formed : Working :=
        { status := .complete, flags := flags realigned, segmentExponent := none
          figures := #v[{ value := some offset }, tie, tiePp t, perRms t floorSquare, c2cRms t floorSquare, c2cPeak t,
            {}, {}, {}, {}, {}, {}, {}, {}] }
      if 20000000 < offset.natAbs then
        .verdict item
          { formed with
            status := .offNominal
            figures := #v[{ value := some offset }, {}, {}, {}, {}, {}, {}, {}, {}, {}, {}, {}, {}, {}] }
      else if j.spectral = false then .verdict item formed
      else if j.length < 1024 then .verdict item { formed with flags := { flags realigned with spectralSkipped := true } }
      else
        .spectralPass item
          { formed with flags := { flags realigned with segmentReduced := decide (j.length < 2 ^ requested) } }
          { exponent, segments := j.length / 2 ^ exponent, segment := 0
            sums := List.replicate (2 ^ exponent / 2 - 1) (List.replicate (2 ^ exponent / 2) 0) }
    (item.second = none →
      let floorSquare := if j.floorCorrection then item.first.snapshot.floor ^ 2 else 0
      exec .timePassEnd s = .next (next
        (ended (record item.first) (tieRms (record item.first) floorSquare) floorSquare false))) ∧
    ∀ leg, item.second = some leg →
      let t1 := record item.first
      let t2 := record leg
      let difference := 2 * (t1.headD 0 - t2.headD 0).toInt * j.fNom
      let window : Int := 1638400000000 * j.prescale
      (|difference| < window → exec .timePassEnd s = .next (next
        (ended (t1.take j.length) (tieRmsPaired (t1.take j.length) (t2.take j.length)) 0 false))) ∧
      (|difference + 2 * window| < window → exec .timePassEnd s = .next (next
        (ended (t1.drop 1) (tieRmsPaired (t1.drop 1) (t2.take j.length)) 0 true))) ∧
      (|difference - 2 * window| < window → exec .timePassEnd s = .next (next
        (ended (t1.take j.length) (tieRmsPaired (t1.take j.length) (t2.drop 1)) 0 true))) ∧
      (window ≤ |difference| → window ≤ |difference + 2 * window| → window ≤ |difference - 2 * window| →
        exec .timePassEnd s = .next (next (.verdict item
          { status := .pairSlip, flags := flags false, segmentExponent := none, figures := Vector.replicate 14 {} })))

/-- R98, R99, R101: for a record of at least two timestamps, the mean interval is the span in su over N − 1, to the nearest
integer with ties up; the TIE sequence is the distance of each timestamp from the line of that interval, less the mean of
those distances to the nearest integer with ties away from zero, so that its sum is within N / 2; and FREQ_OFFSET is the
mean interval's offset from the expected one in ppb, to the nearest integer with ties away from zero. -/
def Obligations.FittedLineAndTieSequence : Prop :=
  (∀ t : List Timestamp, 2 ≤ t.length →
    let n : Int := t.length
    let span : Int := (t.getLastD 0 - t.headD 0).toNat
    let b := meanInterval t
    let residual (k : Nat) : Int := (t.getD k 0 - t.headD 0).toNat * 256 - k * b
    let total := ∑ k ∈ Finset.range t.length, residual k
    ((2 * b - 1) * (n - 1) ≤ 2 * (span * 256) ∧ 2 * (span * 256) < (2 * b + 1) * (n - 1)) ∧
    (tieOf t).length = t.length ∧
    (∃ mean : Int, 2 * |total - mean * n| ≤ n ∧ (2 * |total - mean * n| = n → |total| < |mean * n|) ∧
      ∀ k < t.length, (tieOf t).getD k 0 = residual k - mean) ∧
    2 * |(tieOf t).sum| ≤ n) ∧
  ∀ (mean : Int) (fNom prescale : Nat), 0 < mean → 0 < fNom →
    let ideal : ℚ := 10 ^ 9 * ((419430400000000 * prescale : ℚ) / fNom / mean - 1)
    let offset : ℚ := frequencyOffset mean fNom prescale
    2 * |offset - ideal| ≤ 1 ∧ (2 * |offset - ideal| = 1 → |ideal| < |offset|)

/-- R102 to R108: the time figures of a record of at least three timestamps, in su before their conversion: the mean square of
TIE, or the mean cross product of a pair, less σ_f²; the range of TIE; the variance of the periods, less 2σ_f²; the mean
square of the cycle-to-cycle differences, less 6σ_f²; and the greatest of their magnitudes. -/
def Obligations.TimeFiguresFollowTheirFormulas : Prop :=
  ∀ (t t2 : List Timestamp) (correction : Nat), 3 ≤ t.length → t2.length = t.length →
    let n : ℚ := t.length
    let tie (k : Nat) : ℚ := (tieOf t).getD k 0
    let tie2 (k : Nat) : ℚ := (tieOf t2).getD k 0
    let period (k : Nat) : ℚ := (t.getD (k + 1) 0 - t.getD k 0).toNat * 256
    let cycle (k : Nat) : ℚ := period (k + 1) - period k
    let mean := (∑ k ∈ Finset.range (t.length - 1), period k) / (n - 1)
    let rooted (square : ℚ) (figure : Figure) : Prop :=
      ∃ (num : Int) (den : Nat), 0 < den ∧ (num : ℚ) / den = square ∧ figure = rootFigure num den
    rooted ((∑ k ∈ Finset.range t.length, tie k ^ 2) / n - correction) (tieRms t correction) ∧
    rooted ((∑ k ∈ Finset.range t.length, tie k * tie2 k) / n) (tieRmsPaired t t2) ∧
    (∃ high ∈ tieOf t, ∃ low ∈ tieOf t, (∀ x ∈ tieOf t, low ≤ x ∧ x ≤ high) ∧ tiePp t = linearFigure (high - low).toNat) ∧
    rooted ((∑ k ∈ Finset.range (t.length - 1), (period k - mean) ^ 2) / (n - 1) - 2 * correction) (perRms t correction) ∧
    rooted ((∑ k ∈ Finset.range (t.length - 2), cycle k ^ 2) / (n - 2) - 6 * correction) (c2cRms t correction) ∧
    ∃ peak : Nat, (∃ k < t.length - 2, |cycle k| = peak) ∧ (∀ k < t.length - 2, |cycle k| ≤ peak) ∧
      c2cPeak t = linearFigure peak

/-- R102, R109: a root-mean-square figure is 0 with AT_FLOOR when its square is zero or less, and otherwise the root in
femtoseconds, of 78,125 / 32,768 fs to the su, to the nearest integer with ties up; so is a figure linear in su; a figure
above 4,294,967,295 fs is that, with SATURATED. -/
def Obligations.FemtosecondFiguresAreNearest : Prop :=
  let figure (fs : Nat) : Figure :=
    if fs ≤ 4294967295 then { value := some (fs : Int) } else { value := some 4294967295, flags := { saturated := true } }
  (∀ (num : Int) (den : Nat), 0 < den →
    (num ≤ 0 → rootFigure num den = { value := some 0, flags := { atFloor := true } }) ∧
    (0 < num → ∃ fs : Nat, rootFigure num den = figure fs ∧
      (fs : ℝ) - 1 / 2 ≤ Real.sqrt (num / den) * 78125 / 32768 ∧ Real.sqrt (num / den) * 78125 / 32768 < fs + 1 / 2)) ∧
  ∀ su : Nat, ∃ fs : Nat, linearFigure su = figure fs ∧
    (fs : ℝ) - 1 / 2 ≤ su * 78125 / 32768 ∧ (su * 78125 / 32768 : ℝ) < fs + 1 / 2

/-- R114, R118, R131: the end of the spectral pass finishes the segments left, forms the band figures of the job's bands and
the spot figures of its spots in list order, records the exponent of L used, and enters VERDICT; the time figures and the
figures beyond the lists are left as they were. -/
def Obligations.SpectralPassEndFormsItsFigures : Prop :=
  ∀ (item : Item) (w : Working) (sp : Spectrum) (j : Job) (s : State), s.engine = .spectralPass item w sp →
    jobWithId s item.job = some j → j.bands.length ≤ 4 → j.spots.length ≤ 4 →
    let ties := itemTies s item j
    let finished := addSegments ties.1 ties.2 (sp.segments - sp.segment) sp
    let floorSquare := if j.floorCorrection && item.second.isNone then item.first.snapshot.floor ^ 2 else 0
    ∃ figures : Figures,
      exec .spectralPassEnd s = .next
        { s with engine := .verdict item { w with segmentExponent := some sp.exponent, figures } } ∧
      (∀ i : Fin 14, i.val < 6 → figures[i] = w.figures[i]) ∧
      (∀ b : Fin 4, figures[6 + b.val] = match j.bands[b.val]? with
        | some band => bandFigure finished j.fNom j.prescale floorSquare band
        | none => w.figures[6 + b.val]) ∧
      ∀ i : Fin 4, figures[10 + i.val] = match j.spots[i.val]? with
        | some spot => spotFigure finished j.fNom j.prescale floorSquare spot
        | none => w.figures[10 + i.val]

/-- R93, R154 to R157: the end of the VERDICT stage posts the record of the working result with its verdict, frees the item's
banks, lowers the in-use count and frees the site, as one event; the engine then takes the next item, and the dispatcher
examines its head. -/
def Obligations.EnginePostPostsAndTakesTheNext : Prop :=
  ∀ (item : Item) (w : Working) (j : Job) (s : State), s.engine = .verdict item w → IdsDistinct s →
    jobAt s j.site = some j → j.id = item.job →
    let entry := j.limit.bind fun index => s.limits.entries[index]
    let judged := judge entry w.status w.flags.calStale w.figures
    let overwritten := isNew (slotAt s j.site) || w.flags.overwritten
    let record : ResultRecord :=
      { job := j.id, site := j.site, hostTag := j.hostTag, status := w.status, mode := j.mode, channels := j.channels
        prescale := j.prescale, length := j.length, segmentExponent := w.segmentExponent
        flags := { w.flags with overwritten }, figures := w.figures, verdict := judged.verdict
        failing := judged.failing, bin := judged.bin }
    let posted : State :=
      { freeItemBanks item s with
        results :=
          { slots := s.results.slots.set j.site (.new record)
            completion := s.results.completion.filter (· != j.site) ++ [j.site] }
        notices := if s.results.completion = [] then raiseIn s.notices .resultReady else s.notices
        limits := match j.limit with
          | none => s.limits
          | some index => { s.limits with inUse := s.limits.inUse.set index (inUseOf s index - 1) }
        jobs := s.jobs.set j.site none
        engine := .idle }
    exec .enginePost s = .next (followIdle (examine (groupOfChannel item.first.channel) (takeItem posted)))


/-! ### Link -/

/-- R171, R173, R175, R176, R183, log 1: a complete frame meets the input hold. A request command is the arrival of that
request's frame; the receiver is in HUNT after any frame. With fewer than four frames held it joins the hold, and an IDLE
server that may serve takes the head; with four held it is dropped with a BUSY reply if the fault list has room, and without
one if not; in RESET_PENDING it is discarded. -/
def Obligations.FramesMeetTheInputHold : Prop :=
  (∀ (c : Instr) (tag : Byte) (r : Request) (s : State), requestOf c = some (tag, r) →
    exec c s = exec (.frameReceived (requestFrame tag r)) s) ∧
  ∀ (f : Frame) (s : State), f.payload.length ≤ 1024 →
    let meets (link : Link) : State := { s with link := { link with receiver := .hunt } }
    let arrived := exec (.frameReceived f) s
    (∀ reply, s.link.server = .resetPending reply → arrived = .next (meets s.link)) ∧
    ((∀ reply, s.link.server ≠ .resetPending reply) →
      (s.link.hold.length < 4 → (s.link.server ≠ .idle ∨ s.timebase.sampleTaken = false) →
        arrived = .next (meets { s.link with hold := s.link.hold ++ [f] })) ∧
      (∀ head rest, s.link.hold.length < 4 → s.link.server = .idle → s.timebase.sampleTaken = true →
        s.link.hold ++ [f] = head :: rest → arrived = .next (serveFrame head (meets { s.link with hold := rest }))) ∧
      (4 ≤ s.link.hold.length → s.link.faults.length < 4 →
        arrived = .next (meets { s.link with faults := s.link.faults ++ [makeFrame 0xE0 f.tag [0x01, f.kind]] })) ∧
      (4 ≤ s.link.hold.length → 4 ≤ s.link.faults.length → arrived = .next (meets s.link)))

/-- R176 to R178, R183: the server answers a frame with the first link check it fails: BAD_CRC and UNKNOWN_KIND as LINK_FAULT
replies with the received kind, BAD_LENGTH in the request's own reply kind, and nothing else changes. A frame that passes is
served by its owner and answered with its kind plus 128 and its tag; a RESET discards the hold and leaves the server
RESET_PENDING. LINK_CHECK_FAULT is the arrival of a frame that fails a check (log 2); a server that is ready answers it at
once with the reply of the check that fails. -/
def Obligations.ServerChecksFramesInOrder : Prop :=
  (∀ (f : Frame) (s : State),
    let passesCrc := f.check = crc (bytes16OfNat f.payload.length ++ [f.kind, f.tag] ++ f.payload)
    let known := 1 ≤ f.kind.toNat ∧ f.kind.toNat ≤ 23
    let replies (u : State) (server : Server) : State := { u with link := { u.link with server } }
    (¬passesCrc → serveFrame f s = replies s (.replying (makeFrame 0xE0 f.tag [0x02, f.kind]))) ∧
    (passesCrc → ¬known → serveFrame f s = replies s (.replying (makeFrame 0xE0 f.tag [0x03, f.kind]))) ∧
    (passesCrc → known → readRequest f.kind f.payload = none →
      serveFrame f s = replies s (.replying (makeFrame (f.kind + 128) f.tag [0x04]))) ∧
    (passesCrc → known → ∀ r, readRequest f.kind f.payload = some r → r ≠ .reset →
      serveFrame f s = replies (serveRequest r s).2
        (.replying (makeFrame (f.kind + 128) f.tag (serveRequest r s).1))) ∧
    (passesCrc → f.kind = 23 → f.payload = [] →
      serveFrame f s = { s with link :=
        { s.link with hold := [], server := .resetPending (makeFrame 0x97 f.tag [0x00]) } }) ∧
    (¬passesCrc ∨ ¬known ∨ readRequest f.kind f.payload = none →
      exec (.linkCheckFault f) s = exec (.frameReceived f) s) ∧
    (passesCrc → known → (readRequest f.kind f.payload).isSome = true → exec (.linkCheckFault f) s = .next s) ∧
    (Ready s → f.payload.length ≤ 1024 →
      (¬passesCrc → exec (.linkCheckFault f) s = .next (answered 0xE0 f.tag [0x02, f.kind] s)) ∧
      (passesCrc → ¬known → exec (.linkCheckFault f) s = .next (answered 0xE0 f.tag [0x03, f.kind] s)) ∧
      (passesCrc → known → readRequest f.kind f.payload = none →
        exec (.linkCheckFault f) s = .next (answered (f.kind + 128) f.tag [0x04] s)))) ∧
  ∀ (tag : Byte) (s : State), Ready s →
    exec (.reset tag) s = .next { s with link :=
      { s.link with receiver := .hunt, hold := [], server := .resetPending (makeFrame 0x97 tag [0x00]) } }

/-- R176, R179, R180: between frames the transmitter takes the head of the fault list, else a NOTICE that is due and carries a
flag, with the notice tag, which then advances by one, else the server reply. A NOTICE that would carry no flag is not sent.
While a frame is being sent, or a byte that a break cut a frame off at (log 18), nothing is chosen. When the server reply has
gone, the server takes the head of the hold or is IDLE; the end of any other frame leaves the server as it is. That
TRANSMIT_FRAME_END between frames, and the end of a reply of an IDLE server, change nothing more is the model's choice (log
3). -/
def Obligations.TransmitterChoosesAndFinishesFrames : Prop :=
  ∀ s : State,
    let sends (source : Source) (frame : Frame) (u : State) : State :=
      { u with link := { u.link with transmitter := .sending source frame } }
    let carried : FlagSet := flagsBoth s.notices.flags s.notices.enables
    let empty := ∀ flag, ¬(flagOf s.notices.flags flag = true ∧ flagOf s.notices.enables flag = true)
    let cleared : State := { s with notices := { s.notices with due := false } }
    let ended (link : Link) : State := { s with link := { link with transmitter := .betweenFrames } }
    (∀ source f, s.link.transmitter = .sending source f → exec .transmitStart s = .next s) ∧
    (s.link.transmitter = .betweenFrames →
      (∀ f rest, s.link.faults = f :: rest →
        exec .transmitStart s = .next (sends .fault f { s with link := { s.link with faults := rest } })) ∧
      (s.link.faults = [] → s.notices.due = true → ¬empty →
        exec .transmitStart s = .next (sends .notice (makeFrame 0xF0 s.link.noticeTag [flagSetByte carried])
          { cleared with link := { s.link with noticeTag := s.link.noticeTag + 1 } })) ∧
      (s.link.faults = [] → s.notices.due = false ∨ empty →
        (s.link.server = .idle → exec .transmitStart s = .next cleared) ∧
        ∀ reply, s.link.server = .replying reply ∨ s.link.server = .resetPending reply →
          exec .transmitStart s = .next (sends .serverReply reply cleared))) ∧
    (s.link.transmitter = .finishingByte →
      exec .transmitStart s = .next s ∧ exec .transmitFrameEnd s = .next (ended s.link)) ∧
    (s.link.transmitter = .betweenFrames → exec .transmitFrameEnd s = .next s) ∧
    (∀ source f, s.link.transmitter = .sending source f → source ≠ .serverReply ∨ s.link.server = .idle →
      exec .transmitFrameEnd s = .next (ended s.link)) ∧
    ∀ f reply, s.link.transmitter = .sending .serverReply f → s.link.server = .replying reply →
      (s.link.hold = [] ∨ s.timebase.sampleTaken = false →
        exec .transmitFrameEnd s = .next (ended { s.link with server := .idle })) ∧
      ∀ head rest, s.link.hold = head :: rest → s.timebase.sampleTaken = true →
        exec .transmitFrameEnd s = .next (serveFrame head (ended { s.link with server := .idle, hold := rest }))

/-- R170, R171, R173, R174, R184: the receiver takes each byte by its state. A byte of value 90 in HUNT begins a frame; the
header ends with the tag, and a length above 1,024 is discarded; the second check byte completes the frame. A framing error or
the expiry of the gap returns to HUNT. The bytes of a whole frame, taken one by one from HUNT, are the arrival of that frame.
The line going high arms the break detector and ends the low time; each low period adds to it, and the 250,000th (10 ms of
the 25 MHz oscillator: the model's count, log 17) is a break, which a SPENT detector does not take. -/
def Obligations.ReceiverTakesBytesAndTheDetectorItsLine : Prop :=
  (∀ (b : Byte) (s : State),
    let enters (receiver : Receiver) : Host.Outcome State Fault Refusal := .next { s with link := { s.link with receiver } }
    let taken := exec (.byteReceived b .high) s
    exec (.byteReceived b .low) s = enters .hunt ∧ exec .interByteGapExpiry s = enters .hunt ∧
    (s.link.receiver = .hunt → taken = if b = 90 then enters (.header []) else .next s) ∧
    (∀ got, s.link.receiver = .header got → got.length < 4 →
      let all := got ++ [b]
      let length := (all.getD 0 0).toNat + 256 * (all.getD 1 0).toNat
      taken = if all.length = 2 ∧ 1024 < length then enters .hunt
        else if all.length < 4 then enters (.header all)
        else if length = 0 then enters (.check 0 all) else enters (.body length all)) ∧
    (∀ length got, s.link.receiver = .body length got →
      taken = if got.length + 1 = 4 + length then enters (.check length (got ++ [b])) else enters (.body length (got ++ [b]))) ∧
    ∀ length got, s.link.receiver = .check length got →
      let all := got ++ [b]
      taken = if all.length = 6 + length then
          exec (.frameReceived
            { kind := all.getD 2 0, tag := all.getD 3 0, payload := (all.drop 4).take length
              check := BitVec.ofNat 16 ((all.getD (4 + length) 0).toNat + 256 * (all.getD (5 + length) 0).toNat) }) s
        else enters (.check length all)) ∧
  (∀ (f : Frame) (s : State), f.payload.length ≤ 1024 → s.link.receiver = .hunt →
    (frameBytes f).foldl (fun (o : Host.Outcome State Fault Refusal) b => match o with
      | .next u => exec (.byteReceived b .high) u
      | stopped => stopped) (.next s) = exec (.frameReceived f) s) ∧
  ∀ s : State,
    exec .breakDetectorRearm s = .next { s with link := { s.link with detector := .armed, lowPeriods := 0 } } ∧
    senseReceiveLine .high s = { s with link := { s.link with detector := .armed, lowPeriods := 0 } } ∧
    (s.link.detector = .spent → exec .linkBreak s = .next s) ∧
    (s.link.lowPeriods + 1 < 250000 ∨ s.link.detector = .spent →
      senseReceiveLine .low s = { s with link := { s.link with lowPeriods := s.link.lowPeriods + 1 } }) ∧
    (s.link.lowPeriods + 1 = 250000 → s.link.detector = .armed →
      exec .linkBreak s = .next (senseReceiveLine .low s))

/-! ### Spectral figures -/

/-- R114, R115, R118 to R122: once J segments have been added, the exact real number that the sum of bin k stands for is 32
times the sum over the segments of Re(Y1[k] × conj(Y2[k])), with Y the transform of the tapered segment; for a SINGLE item,
whose two sequences are the same, that is the sum of |Y[k]|². L is 2^(m + 2); the factor 32 is the model's (log 16). -/
def Obligations.PowerSumsAreExact : Prop :=
  ∀ (m count : Nat) (tie1 tie2 : List Int),
    let length := 2 ^ (m + 2)
    let empty : Spectrum :=
      { exponent := m + 2, segments := count, segment := 0
        sums := List.replicate (length / 2 - 1) (List.replicate (length / 2) 0) }
    let finished := addSegments tie1 tie2 count empty
    let y (tie : List Int) (j k : Nat) : ℂ := exactTransform length k ((tie.drop (j * length)).take length)
    finished.segment = count ∧ finished.sums.length = length / 2 - 1 ∧
    ∀ k, 1 ≤ k → k < length / 2 →
      surdValue m (surdOfSum m (finished.sums.getD (k - 1) [])) =
        32 * ∑ j ∈ Finset.range count, (y tie1 j k * (starRingEnd ℂ) (y tie2 j k)).re

/-- R109, R115, R121 to R126: a band figure of a finished spectrum, for its exact power sums p(k). Its bins are those from 1
to L/2 − 1 whose frequency lies in the band, ends included; without a bin it is absent with BAND_EMPTY; BAND_CLIPPED is set
when the band reaches beyond the bins. Otherwise S is the sum of G(k) = 16 p(k) / (3JL²), less 2nσ_f² / L; the figure is 0
with AT_FLOOR when S is zero or less, and else √S in femtoseconds, to the nearest integer with ties up, saturated. -/
def Obligations.BandFiguresAreExact : Prop :=
  ∀ (m fNom prescale floorSquare fLo fHi : Nat) (sp : Spectrum), sp.exponent = m + 2 → 0 < sp.segments → 0 < fNom →
    sp.sums.length = 2 ^ (m + 1) - 1 → (∀ sum ∈ sp.sums, sum.length = 2 ^ (m + 1)) →
    let length := 2 ^ (m + 2)
    let p (k : Nat) : ℝ := surdValue m (surdOfSum m (sp.sums.getD (k - 1) [])) / 32
    let bins := (Finset.Icc 1 (length / 2 - 1)).filter fun k => fLo * prescale * length ≤ k * fNom ∧ k * fNom ≤ fHi * prescale * length
    let clipped := decide (fLo * prescale * length < fNom ∨ (length / 2 - 1) * fNom < fHi * prescale * length)
    let power : ℝ := ∑ k ∈ bins, 16 * p k / (3 * sp.segments * length ^ 2) - 2 * bins.card * floorSquare / length
    let figure := bandFigure sp fNom prescale floorSquare (fLo, fHi)
    (bins = ∅ → figure = { value := none, flags := { bandClipped := clipped, bandEmpty := true } }) ∧
    (bins ≠ ∅ → power ≤ 0 → figure = { value := some 0, flags := { atFloor := true, bandClipped := clipped } }) ∧
    (bins ≠ ∅ → 0 < power → ∃ fs : Nat,
      (fs : ℝ) - 1 / 2 ≤ Real.sqrt power * 78125 / 32768 ∧ Real.sqrt power * 78125 / 32768 < fs + 1 / 2 ∧
      figure = if fs ≤ 4294967295 then { value := some (fs : Int), flags := { bandClipped := clipped } }
        else { value := some 4294967295, flags := { saturated := true, bandClipped := clipped } })

/-- R115, R127 to R130: a spot figure of a finished spectrum, for its exact power sums p(k). Its bin is the offset over Δf to
the nearest integer with ties up, moved into the formed bins with OFFSET_CLIPPED. With g = G(k) less the floor, the figure is
−20,000 with AT_FLOOR when g is zero or less, and else 1000 × log10(g × τ² × 2π² × f_nom × P × L) to the nearest integer with
ties up, by the exact value, clamped to −20,000 … 0 with SATURATED. -/
def Obligations.SpotFiguresAreNearest : Prop :=
  ∀ (m fNom prescale floorSquare fO : Nat) (sp : Spectrum), sp.exponent = m + 2 → 0 < sp.segments → 0 < fNom →
    0 < prescale → sp.sums.length = 2 ^ (m + 1) - 1 → (∀ sum ∈ sp.sums, sum.length = 2 ^ (m + 1)) →
    let length := 2 ^ (m + 2)
    let p (k : Nat) : ℝ := surdValue m (surdOfSum m (sp.sums.getD (k - 1) [])) / 32
    let nearest := (2 * fO * prescale * length + fNom) / (2 * fNom)
    let bin := if nearest < 1 then 1 else if length / 2 - 1 < nearest then length / 2 - 1 else nearest
    let clipped := decide (bin ≠ nearest)
    let g : ℝ := 16 * p bin / (3 * sp.segments * length ^ 2) - 2 * floorSquare / length
    let tau : ℝ := 78125 / 32768 / 10 ^ 15
    let level := 1000 * Real.logb 10 (g * tau ^ 2 * (2 * Real.pi ^ 2) * fNom * prescale * length)
    let figure := spotFigure sp fNom prescale floorSquare fO
    (g ≤ 0 → figure = { value := some (-20000), flags := { atFloor := true, offsetClipped := clipped } }) ∧
    (0 < g → ∃ n : Int, (n : ℝ) - 1 / 2 ≤ level ∧ level < n + 1 / 2 ∧
      figure =
        if n < -20000 then { value := some (-20000), flags := { saturated := true, offsetClipped := clipped } }
        else if 0 < n then { value := some 0, flags := { saturated := true, offsetClipped := clipped } }
        else { value := some n, flags := { offsetClipped := clipped } })

/-! ### Invariants -/

/-- R18, R33, R38, R66: every step, a command's or an idle one, keeps each channel's state in step with its context, its
group's section and its record. R31, R52: with that, outside LOCKED no channel works and no record is VALID, step after step.
R164: with that, the notice unit has followed the idle condition after every step. -/
def Obligations.StepKeepsChannelsSectionsAndIdleCondition : Prop :=
  ∀ s t : State, step s = .next t → ChannelsFit s →
    ChannelsFit t ∧ (LostReferenceStopsWork s → LostReferenceStopsWork t) ∧ (IdleFollowed s → IdleFollowed t)

/-- R58, R62: every step keeps each live job at its own site, the live ids distinct and the id counter within 1 … 65,535. R143:
with that, every step keeps each limit entry's in-use count the number of live jobs that name it. R19, R23, R63, R66, R88, R89:
with that and each channel in step with its context, every step keeps each live job with exactly the work its state says: the
job entries of a queue are its group's HELD and QUEUED jobs; the contexts are those of the SETTLING and CAPTURING jobs, a pair
unit at work serving the job whose two contexts its group holds; each job in analysis has one item; a FILLING bank is that of
its channel's context, and a FULL bank that of exactly one item. -/
def Obligations.StepKeepsJobsAndInUseCounts : Prop :=
  ∀ s t : State, step s = .next t → IdsDistinct s →
    IdsDistinct t ∧ (InUseExact s → InUseExact t) ∧ (ChannelsFit s → WorkFits s → WorkFits t)

/-- R156: every step keeps the completion list the sites whose slot is NEW, each once. R175: every step keeps at most four
frames in the input hold and at most four replies in the fault list. R134, R143: every step keeps the limit entries at or
beyond the extent undefined and the entries in use defined. -/
def Obligations.StepKeepsTheCompletionListAndTheLinkPlaces : Prop :=
  ∀ s t : State, step s = .next t →
    (CompletionExact s → CompletionExact t) ∧ (LinkWithinPlaces s → LinkWithinPlaces t) ∧ (LimitsFit s → LimitsFit t)

/-- R36, R54, R80, R153, R169, R186: the part right after reset meets every invariant, with nothing on any list. -/
def Obligations.ResetStateMeetsTheInvariants : Prop :=
  ChannelsFit State.reset ∧ LostReferenceStopsWork State.reset ∧ IdleFollowed State.reset ∧ IdsDistinct State.reset ∧
  InUseExact State.reset ∧ WorkFits State.reset ∧ LimitsFit State.reset ∧ CompletionExact State.reset ∧
  LinkWithinPlaces State.reset ∧
  State.reset.queues = { a := [], b := [] } ∧ State.reset.analysisQueue = [] ∧ State.reset.results.completion = [] ∧
  State.reset.link.hold = [] ∧ State.reset.link.faults = [] ∧ State.reset.pending = []
end

