-- ==== Sys2Proof/Laws/Encoding.lean ====
section
/-! SUPPORT. The payload encodings, field by field: what is written reads back. -/

namespace Sys2Proof.Machine

theorem word16_bytes (x : BitVec 16) : word16 (x.extractLsb' 0 8) (x.extractLsb' 8 8) = x := by
  unfold word16
  ext i hi
  simp only [BitVec.getElem_append, BitVec.getElem_extractLsb']
  split
  · next h => rw [← BitVec.getLsbD_eq_getElem]; simp
  · next h => rw [← BitVec.getLsbD_eq_getElem]; congr 1; omega

theorem word32_bytes (x : BitVec 32) :
    word32 (x.extractLsb' 0 8) (x.extractLsb' 8 8) (x.extractLsb' 16 8) (x.extractLsb' 24 8) = x := by
  unfold word32
  ext i hi
  simp only [BitVec.getElem_append, BitVec.getElem_extractLsb']
  split
  · split
    · rw [← BitVec.getLsbD_eq_getElem]; simp
    · rw [← BitVec.getLsbD_eq_getElem]; congr 1; omega
  · split
    · rw [← BitVec.getLsbD_eq_getElem]; congr 1; omega
    · rw [← BitVec.getLsbD_eq_getElem]; congr 1; omega

theorem toNat_byteOfNat {n : Nat} (h : n < 256) : (byteOfNat n).toNat = n := by
  simp [byteOfNat, Nat.mod_eq_of_lt h]

theorem byteOfBits_toNat (b0 b1 b2 b3 b4 b5 b6 b7 : Bool) :
    (byteOfBits b0 b1 b2 b3 b4 b5 b6 b7).toNat = b0.toNat + 2 * b1.toNat + 4 * b2.toNat + 8 * b3.toNat + 16 * b4.toNat
      + 32 * b5.toNat + 64 * b6.toNat + 128 * b7.toNat := by
  revert b0 b1 b2 b3 b4 b5 b6 b7
  decide +kernel

theorem byteOfBits_bit (b0 b1 b2 b3 b4 b5 b6 b7 : Bool) :
    (byteOfBits b0 b1 b2 b3 b4 b5 b6 b7).getLsbD 0 = b0 ∧ (byteOfBits b0 b1 b2 b3 b4 b5 b6 b7).getLsbD 1 = b1 ∧
    (byteOfBits b0 b1 b2 b3 b4 b5 b6 b7).getLsbD 2 = b2 ∧ (byteOfBits b0 b1 b2 b3 b4 b5 b6 b7).getLsbD 3 = b3 ∧
    (byteOfBits b0 b1 b2 b3 b4 b5 b6 b7).getLsbD 4 = b4 ∧ (byteOfBits b0 b1 b2 b3 b4 b5 b6 b7).getLsbD 5 = b5 ∧
    (byteOfBits b0 b1 b2 b3 b4 b5 b6 b7).getLsbD 6 = b6 ∧ (byteOfBits b0 b1 b2 b3 b4 b5 b6 b7).getLsbD 7 = b7 := by
  revert b0 b1 b2 b3 b4 b5 b6 b7
  decide +kernel

theorem takeOptional8_written (x : Option Byte) (rest : List Byte) :
    takeOptional8 x.isSome (optional8 x ++ rest) = some (x, rest) := by
  cases x <;> rfl

theorem takeOptional16_written (x : Option (BitVec 16)) (rest : List Byte) :
    takeOptional16 x.isSome (optional16 x ++ rest) = some (x, rest) := by
  cases x with
  | none => rfl
  | some x => simp [takeOptional16, optional16, bytes16, word16_bytes]

theorem takeOptional32_written (x : Option (BitVec 32)) (rest : List Byte) :
    takeOptional32 x.isSome (optional32 x ++ rest) = some (x, rest) := by
  cases x with
  | none => rfl
  | some x => simp [takeOptional32, optional32, bytes32, word32_bytes]

theorem takeBands_written (bands : List (BitVec 32 × BitVec 32)) (rest : List Byte) :
    takeBands bands.length (bandBytes bands ++ rest) = some (bands, rest) := by
  induction bands with
  | nil => rfl
  | cons band bands ih => simp [takeBands, bandBytes, bytes32, word32_bytes, ih]

theorem takeSpots_written (spots : List (BitVec 32)) (rest : List Byte) :
    takeSpots spots.length (spotBytes spots ++ rest) = some (spots, rest) := by
  induction spots with
  | nil => rfl
  | cons spot spots ih => simp [takeSpots, spotBytes, bytes32, word32_bytes, ih]

theorem spotBytes_length (spots : List (BitVec 32)) : (spotBytes spots).length = 4 * spots.length := by
  induction spots with
  | nil => rfl
  | cons spot spots ih => simp [spotBytes, bytes32, ih]; omega

theorem bandBytes_length (bands : List (BitVec 32 × BitVec 32)) : (bandBytes bands).length = 8 * bands.length := by
  induction bands with
  | nil => rfl
  | cons band bands ih => simp [bandBytes, bytes32, ih]; omega

theorem optional8_length (x : Option Byte) : (optional8 x).length = if x.isSome then 1 else 0 := by
  cases x <;> rfl

theorem optional16_length (x : Option (BitVec 16)) : (optional16 x).length = if x.isSome then 2 else 0 := by
  cases x <;> rfl

theorem optional32_length (x : Option (BitVec 32)) : (optional32 x).length = if x.isSome then 4 else 0 := by
  cases x <;> rfl

/-- A JOB_SUBMIT payload reads back (section 11.5). -/
theorem readJob_written (f : JobFields) (h : f.wellFormed = true) : readJob (jobPayload f) = some f := by
  simp only [JobFields.wellFormed, Bool.and_eq_true, decide_eq_true_eq] at h
  obtain ⟨⟨hb, hs⟩, -⟩ := h
  have hm : ¬ 4 ≤ (byteOfBits f.exponent.isSome f.limit.isSome false false false false false false).toNat := by
    rw [byteOfBits_toNat]; cases f.exponent.isSome <;> cases f.limit.isSome <;> simp
  have hbits := byteOfBits_bit f.exponent.isSome f.limit.isSome false false false false false false
  simp only [jobPayload, bytes32, bytes16, List.cons_append, List.nil_append, List.append_assoc, readJob, if_neg hm,
    hbits.1, hbits.2.1, takeOptional8_written, toNat_byteOfNat hb, toNat_byteOfNat hs, takeBands_written,
    Option.bind_eq_bind, Option.bind_some]
  have := takeSpots_written f.spots []
  rw [List.append_nil] at this
  simp [this, word32_bytes, word16_bytes]

theorem failBins_vec (v : Vector Byte 14) : ∃ b0 b1 b2 b3 b4 b5 b6 b7 b8 b9 b10 b11 b12 b13, v = #v[b0,b1,b2,b3,b4,b5,b6,b7,b8,b9,b10,b11,b12,b13] := by
  refine ⟨v[0], v[1], v[2], v[3], v[4], v[5], v[6], v[7], v[8], v[9], v[10], v[11], v[12], v[13], ?_⟩
  ext i hi
  interval_cases i <;> rfl

theorem bind_some_eq {α β : Type} {o : Option α} {x : α} (h : o = some x) (k : α → Option β) : (o >>= k) = k x := by
  rw [h]; rfl

theorem readLimit_chain (m0 m1 index kind scope l0 l1 l2 l3 h0 h1 h2 h3 stale passBin retestBin
      b0 b1 b2 b3 b4 b5 b6 b7 b8 b9 b10 b11 b12 b13 : Byte) (f : LimitFields)
    (p : m0.getLsbD 0 = f.lot.isSome ∧ m0.getLsbD 1 = f.offsetMin.isSome ∧ m0.getLsbD 2 = f.offsetMax.isSome ∧
      m0.getLsbD 3 = f.tieRms.isSome ∧ m0.getLsbD 4 = f.tiePp.isSome ∧ m0.getLsbD 5 = f.perRms.isSome ∧
      m0.getLsbD 6 = f.c2cRms.isSome ∧ m0.getLsbD 7 = f.c2cPeak.isSome)
    (q : m1.getLsbD 0 = f.band0.isSome ∧ m1.getLsbD 1 = f.band1.isSome ∧ m1.getLsbD 2 = f.band2.isSome ∧
      m1.getLsbD 3 = f.band3.isSome ∧ m1.getLsbD 4 = f.spot0.isSome ∧ m1.getLsbD 5 = f.spot1.isSome ∧
      m1.getLsbD 6 = f.spot2.isSome ∧ m1.getLsbD 7 = f.spot3.isSome) :
    readLimit (m0 :: m1 :: index :: kind :: scope :: l0 :: l1 :: l2 :: l3 :: h0 :: h1 :: h2 :: h3 :: stale :: passBin :: retestBin
      :: b0 :: b1 :: b2 :: b3 :: b4 :: b5 :: b6 :: b7 :: b8 :: b9 :: b10 :: b11 :: b12 :: b13 :: limitOptionalBytes f) =
    some { f with index := index, kind := kind, scope := scope, fMin := word32 l0 l1 l2 l3, fMax := word32 h0 h1 h2 h3, stale := stale, passBin := passBin, retestBin := retestBin, failBins := #v[b0, b1, b2, b3, b4, b5, b6, b7, b8, b9, b10, b11, b12, b13] } := by
  have e : takeOptional16 f.spot3.isSome (optional16 f.spot3) = some (f.spot3, []) := by
    have := takeOptional16_written f.spot3 []
    rwa [List.append_nil] at this
  obtain ⟨p0, p1, p2, p3, p4, p5, p6, p7⟩ := p
  obtain ⟨q0, q1, q2, q3, q4, q5, q6, q7⟩ := q
  unfold readLimit limitOptionalBytes
  dsimp only
  simp only [List.append_assoc]
  rw [p0, bind_some_eq (takeOptional32_written _ _)]; dsimp only
  rw [p1, bind_some_eq (takeOptional32_written _ _)]; dsimp only
  rw [p2, bind_some_eq (takeOptional32_written _ _)]; dsimp only
  rw [p3, bind_some_eq (takeOptional32_written _ _)]; dsimp only
  rw [p4, bind_some_eq (takeOptional32_written _ _)]; dsimp only
  rw [p5, bind_some_eq (takeOptional32_written _ _)]; dsimp only
  rw [p6, bind_some_eq (takeOptional32_written _ _)]; dsimp only
  rw [p7, bind_some_eq (takeOptional32_written _ _)]; dsimp only
  rw [q0, bind_some_eq (takeOptional32_written _ _)]; dsimp only
  rw [q1, bind_some_eq (takeOptional32_written _ _)]; dsimp only
  rw [q2, bind_some_eq (takeOptional32_written _ _)]; dsimp only
  rw [q3, bind_some_eq (takeOptional32_written _ _)]; dsimp only
  rw [q4, bind_some_eq (takeOptional16_written _ _)]; dsimp only
  rw [q5, bind_some_eq (takeOptional16_written _ _)]; dsimp only
  rw [q6, bind_some_eq (takeOptional16_written _ _)]; dsimp only
  rw [q7, bind_some_eq e]
  rfl

/-- A LIMIT_WRITE payload reads back (section 11.7). -/
theorem readLimit_written (f : LimitFields) : readLimit (limitPayload f) = some f := by
  obtain ⟨b0, b1, b2, b3, b4, b5, b6, b7, b8, b9, b10, b11, b12, b13, hv⟩ := failBins_vec f.failBins
  have hl : f.failBins.toList = [b0, b1, b2, b3, b4, b5, b6, b7, b8, b9, b10, b11, b12, b13] := by rw [hv]; rfl
  unfold limitPayload
  rw [hl]
  simp only [bytes32, List.cons_append, List.nil_append]
  rw [readLimit_chain _ _ _ _ _ _ _ _ _ _ _ _ _ _ _ _ _ _ _ _ _ _ _ _ _ _ _ _ _ _ f (byteOfBits_bit _ _ _ _ _ _ _ _)
    (byteOfBits_bit _ _ _ _ _ _ _ _), word32_bytes, word32_bytes]
  exact congrArg some (by cases f; cases hv; rfl)

/-- A frame made by either side passes the check (R172). -/
theorem checkHolds_makeFrame (kind tag : Byte) (payload : List Byte) : checkHolds (makeFrame kind tag payload) = true := by
  simp [checkHolds, makeFrame]

end Sys2Proof.Machine
end

