-- ==== Sys2Proof/Laws/State.lean ====
section
/-! SUPPORT. What each update of the state leaves of each field: one lemma per field per update. -/

namespace Sys2Proof.Machine

/-! ### `setChannel` -/

@[simp] theorem setChannel_timebase (c : ChannelId) (x : Channel) (s : State) :
    (setChannel c x s).timebase = s.timebase := rfl
@[simp] theorem setChannel_channels (c : ChannelId) (x : Channel) (s : State) :
    (setChannel c x s).channels = s.channels.set c x := rfl
@[simp] theorem setChannel_pairs (c : ChannelId) (x : Channel) (s : State) : (setChannel c x s).pairs = s.pairs := rfl
@[simp] theorem setChannel_records (c : ChannelId) (x : Channel) (s : State) :
    (setChannel c x s).records = s.records := rfl
@[simp] theorem setChannel_sections (c : ChannelId) (x : Channel) (s : State) :
    (setChannel c x s).sections = s.sections := rfl
@[simp] theorem setChannel_jobs (c : ChannelId) (x : Channel) (s : State) : (setChannel c x s).jobs = s.jobs := rfl
@[simp] theorem setChannel_jobCounter (c : ChannelId) (x : Channel) (s : State) :
    (setChannel c x s).jobCounter = s.jobCounter := rfl
@[simp] theorem setChannel_queues (c : ChannelId) (x : Channel) (s : State) :
    (setChannel c x s).queues = s.queues := rfl
@[simp] theorem setChannel_trigger (c : ChannelId) (x : Channel) (s : State) :
    (setChannel c x s).trigger = s.trigger := rfl
@[simp] theorem setChannel_analysisQueue (c : ChannelId) (x : Channel) (s : State) :
    (setChannel c x s).analysisQueue = s.analysisQueue := rfl
@[simp] theorem setChannel_engine (c : ChannelId) (x : Channel) (s : State) :
    (setChannel c x s).engine = s.engine := rfl
@[simp] theorem setChannel_limits (c : ChannelId) (x : Channel) (s : State) :
    (setChannel c x s).limits = s.limits := rfl
@[simp] theorem setChannel_results (c : ChannelId) (x : Channel) (s : State) :
    (setChannel c x s).results = s.results := rfl
@[simp] theorem setChannel_notices (c : ChannelId) (x : Channel) (s : State) :
    (setChannel c x s).notices = s.notices := rfl
@[simp] theorem setChannel_link (c : ChannelId) (x : Channel) (s : State) : (setChannel c x s).link = s.link := rfl
@[simp] theorem setChannel_freeIndex (c : ChannelId) (x : Channel) (s : State) :
    (setChannel c x s).freeIndex = s.freeIndex := rfl
@[simp] theorem setChannel_pending (c : ChannelId) (x : Channel) (s : State) :
    (setChannel c x s).pending = s.pending := rfl

/-! ### `setRecord` -/

@[simp] theorem setRecord_timebase (c : ChannelId) (x : CalRecord) (s : State) :
    (setRecord c x s).timebase = s.timebase := rfl
@[simp] theorem setRecord_channels (c : ChannelId) (x : CalRecord) (s : State) :
    (setRecord c x s).channels = s.channels := rfl
@[simp] theorem setRecord_pairs (c : ChannelId) (x : CalRecord) (s : State) : (setRecord c x s).pairs = s.pairs := rfl
@[simp] theorem setRecord_records (c : ChannelId) (x : CalRecord) (s : State) :
    (setRecord c x s).records = s.records.set c x := rfl
@[simp] theorem setRecord_sections (c : ChannelId) (x : CalRecord) (s : State) :
    (setRecord c x s).sections = s.sections := rfl
@[simp] theorem setRecord_jobs (c : ChannelId) (x : CalRecord) (s : State) : (setRecord c x s).jobs = s.jobs := rfl
@[simp] theorem setRecord_jobCounter (c : ChannelId) (x : CalRecord) (s : State) :
    (setRecord c x s).jobCounter = s.jobCounter := rfl
@[simp] theorem setRecord_queues (c : ChannelId) (x : CalRecord) (s : State) :
    (setRecord c x s).queues = s.queues := rfl
@[simp] theorem setRecord_trigger (c : ChannelId) (x : CalRecord) (s : State) :
    (setRecord c x s).trigger = s.trigger := rfl
@[simp] theorem setRecord_analysisQueue (c : ChannelId) (x : CalRecord) (s : State) :
    (setRecord c x s).analysisQueue = s.analysisQueue := rfl
@[simp] theorem setRecord_engine (c : ChannelId) (x : CalRecord) (s : State) :
    (setRecord c x s).engine = s.engine := rfl
@[simp] theorem setRecord_limits (c : ChannelId) (x : CalRecord) (s : State) :
    (setRecord c x s).limits = s.limits := rfl
@[simp] theorem setRecord_results (c : ChannelId) (x : CalRecord) (s : State) :
    (setRecord c x s).results = s.results := rfl
@[simp] theorem setRecord_notices (c : ChannelId) (x : CalRecord) (s : State) :
    (setRecord c x s).notices = s.notices := rfl
@[simp] theorem setRecord_link (c : ChannelId) (x : CalRecord) (s : State) : (setRecord c x s).link = s.link := rfl
@[simp] theorem setRecord_freeIndex (c : ChannelId) (x : CalRecord) (s : State) :
    (setRecord c x s).freeIndex = s.freeIndex := rfl
@[simp] theorem setRecord_pending (c : ChannelId) (x : CalRecord) (s : State) :
    (setRecord c x s).pending = s.pending := rfl

/-! ### `setPair` -/

@[simp] theorem setPair_timebase (g : Group) (x : PairUnit) (s : State) : (setPair g x s).timebase = s.timebase := rfl
@[simp] theorem setPair_channels (g : Group) (x : PairUnit) (s : State) : (setPair g x s).channels = s.channels := rfl
@[simp] theorem setPair_pairs (g : Group) (x : PairUnit) (s : State) : (setPair g x s).pairs = s.pairs.put g x := rfl
@[simp] theorem setPair_records (g : Group) (x : PairUnit) (s : State) : (setPair g x s).records = s.records := rfl
@[simp] theorem setPair_sections (g : Group) (x : PairUnit) (s : State) : (setPair g x s).sections = s.sections := rfl
@[simp] theorem setPair_jobs (g : Group) (x : PairUnit) (s : State) : (setPair g x s).jobs = s.jobs := rfl
@[simp] theorem setPair_jobCounter (g : Group) (x : PairUnit) (s : State) :
    (setPair g x s).jobCounter = s.jobCounter := rfl
@[simp] theorem setPair_queues (g : Group) (x : PairUnit) (s : State) : (setPair g x s).queues = s.queues := rfl
@[simp] theorem setPair_trigger (g : Group) (x : PairUnit) (s : State) : (setPair g x s).trigger = s.trigger := rfl
@[simp] theorem setPair_analysisQueue (g : Group) (x : PairUnit) (s : State) :
    (setPair g x s).analysisQueue = s.analysisQueue := rfl
@[simp] theorem setPair_engine (g : Group) (x : PairUnit) (s : State) : (setPair g x s).engine = s.engine := rfl
@[simp] theorem setPair_limits (g : Group) (x : PairUnit) (s : State) : (setPair g x s).limits = s.limits := rfl
@[simp] theorem setPair_results (g : Group) (x : PairUnit) (s : State) : (setPair g x s).results = s.results := rfl
@[simp] theorem setPair_notices (g : Group) (x : PairUnit) (s : State) : (setPair g x s).notices = s.notices := rfl
@[simp] theorem setPair_link (g : Group) (x : PairUnit) (s : State) : (setPair g x s).link = s.link := rfl
@[simp] theorem setPair_freeIndex (g : Group) (x : PairUnit) (s : State) :
    (setPair g x s).freeIndex = s.freeIndex := rfl
@[simp] theorem setPair_pending (g : Group) (x : PairUnit) (s : State) : (setPair g x s).pending = s.pending := rfl

/-! ### `setSection` -/

@[simp] theorem setSection_timebase (g : Group) (x : CalSection) (s : State) :
    (setSection g x s).timebase = s.timebase := rfl
@[simp] theorem setSection_channels (g : Group) (x : CalSection) (s : State) :
    (setSection g x s).channels = s.channels := rfl
@[simp] theorem setSection_pairs (g : Group) (x : CalSection) (s : State) : (setSection g x s).pairs = s.pairs := rfl
@[simp] theorem setSection_records (g : Group) (x : CalSection) (s : State) :
    (setSection g x s).records = s.records := rfl
@[simp] theorem setSection_sections (g : Group) (x : CalSection) (s : State) :
    (setSection g x s).sections = s.sections.put g x := rfl
@[simp] theorem setSection_jobs (g : Group) (x : CalSection) (s : State) : (setSection g x s).jobs = s.jobs := rfl
@[simp] theorem setSection_jobCounter (g : Group) (x : CalSection) (s : State) :
    (setSection g x s).jobCounter = s.jobCounter := rfl
@[simp] theorem setSection_queues (g : Group) (x : CalSection) (s : State) : (setSection g x s).queues = s.queues := rfl
@[simp] theorem setSection_trigger (g : Group) (x : CalSection) (s : State) :
    (setSection g x s).trigger = s.trigger := rfl
@[simp] theorem setSection_analysisQueue (g : Group) (x : CalSection) (s : State) :
    (setSection g x s).analysisQueue = s.analysisQueue := rfl
@[simp] theorem setSection_engine (g : Group) (x : CalSection) (s : State) : (setSection g x s).engine = s.engine := rfl
@[simp] theorem setSection_limits (g : Group) (x : CalSection) (s : State) : (setSection g x s).limits = s.limits := rfl
@[simp] theorem setSection_results (g : Group) (x : CalSection) (s : State) :
    (setSection g x s).results = s.results := rfl
@[simp] theorem setSection_notices (g : Group) (x : CalSection) (s : State) :
    (setSection g x s).notices = s.notices := rfl
@[simp] theorem setSection_link (g : Group) (x : CalSection) (s : State) : (setSection g x s).link = s.link := rfl
@[simp] theorem setSection_freeIndex (g : Group) (x : CalSection) (s : State) :
    (setSection g x s).freeIndex = s.freeIndex := rfl
@[simp] theorem setSection_pending (g : Group) (x : CalSection) (s : State) :
    (setSection g x s).pending = s.pending := rfl

/-! ### `setQueue` -/

@[simp] theorem setQueue_timebase (g : Group) (q : List Entry) (s : State) :
    (setQueue g q s).timebase = s.timebase := rfl
@[simp] theorem setQueue_channels (g : Group) (q : List Entry) (s : State) :
    (setQueue g q s).channels = s.channels := rfl
@[simp] theorem setQueue_pairs (g : Group) (q : List Entry) (s : State) : (setQueue g q s).pairs = s.pairs := rfl
@[simp] theorem setQueue_records (g : Group) (q : List Entry) (s : State) : (setQueue g q s).records = s.records := rfl
@[simp] theorem setQueue_sections (g : Group) (q : List Entry) (s : State) :
    (setQueue g q s).sections = s.sections := rfl
@[simp] theorem setQueue_jobs (g : Group) (q : List Entry) (s : State) : (setQueue g q s).jobs = s.jobs := rfl
@[simp] theorem setQueue_jobCounter (g : Group) (q : List Entry) (s : State) :
    (setQueue g q s).jobCounter = s.jobCounter := rfl
@[simp] theorem setQueue_queues (g : Group) (q : List Entry) (s : State) :
    (setQueue g q s).queues = s.queues.put g q := rfl
@[simp] theorem setQueue_trigger (g : Group) (q : List Entry) (s : State) : (setQueue g q s).trigger = s.trigger := rfl
@[simp] theorem setQueue_analysisQueue (g : Group) (q : List Entry) (s : State) :
    (setQueue g q s).analysisQueue = s.analysisQueue := rfl
@[simp] theorem setQueue_engine (g : Group) (q : List Entry) (s : State) : (setQueue g q s).engine = s.engine := rfl
@[simp] theorem setQueue_limits (g : Group) (q : List Entry) (s : State) : (setQueue g q s).limits = s.limits := rfl
@[simp] theorem setQueue_results (g : Group) (q : List Entry) (s : State) : (setQueue g q s).results = s.results := rfl
@[simp] theorem setQueue_notices (g : Group) (q : List Entry) (s : State) : (setQueue g q s).notices = s.notices := rfl
@[simp] theorem setQueue_link (g : Group) (q : List Entry) (s : State) : (setQueue g q s).link = s.link := rfl
@[simp] theorem setQueue_freeIndex (g : Group) (q : List Entry) (s : State) :
    (setQueue g q s).freeIndex = s.freeIndex := rfl
@[simp] theorem setQueue_pending (g : Group) (q : List Entry) (s : State) : (setQueue g q s).pending = s.pending := rfl

/-! ### `setJob` -/

@[simp] theorem setJob_timebase (site : Site) (j : Option Job) (s : State) :
    (setJob site j s).timebase = s.timebase := rfl
@[simp] theorem setJob_channels (site : Site) (j : Option Job) (s : State) :
    (setJob site j s).channels = s.channels := rfl
@[simp] theorem setJob_pairs (site : Site) (j : Option Job) (s : State) : (setJob site j s).pairs = s.pairs := rfl
@[simp] theorem setJob_records (site : Site) (j : Option Job) (s : State) : (setJob site j s).records = s.records := rfl
@[simp] theorem setJob_sections (site : Site) (j : Option Job) (s : State) :
    (setJob site j s).sections = s.sections := rfl
@[simp] theorem setJob_jobs (site : Site) (j : Option Job) (s : State) :
    (setJob site j s).jobs = s.jobs.set site j := rfl
@[simp] theorem setJob_jobCounter (site : Site) (j : Option Job) (s : State) :
    (setJob site j s).jobCounter = s.jobCounter := rfl
@[simp] theorem setJob_queues (site : Site) (j : Option Job) (s : State) : (setJob site j s).queues = s.queues := rfl
@[simp] theorem setJob_trigger (site : Site) (j : Option Job) (s : State) : (setJob site j s).trigger = s.trigger := rfl
@[simp] theorem setJob_analysisQueue (site : Site) (j : Option Job) (s : State) :
    (setJob site j s).analysisQueue = s.analysisQueue := rfl
@[simp] theorem setJob_engine (site : Site) (j : Option Job) (s : State) : (setJob site j s).engine = s.engine := rfl
@[simp] theorem setJob_limits (site : Site) (j : Option Job) (s : State) : (setJob site j s).limits = s.limits := rfl
@[simp] theorem setJob_results (site : Site) (j : Option Job) (s : State) : (setJob site j s).results = s.results := rfl
@[simp] theorem setJob_notices (site : Site) (j : Option Job) (s : State) : (setJob site j s).notices = s.notices := rfl
@[simp] theorem setJob_link (site : Site) (j : Option Job) (s : State) : (setJob site j s).link = s.link := rfl
@[simp] theorem setJob_freeIndex (site : Site) (j : Option Job) (s : State) :
    (setJob site j s).freeIndex = s.freeIndex := rfl
@[simp] theorem setJob_pending (site : Site) (j : Option Job) (s : State) : (setJob site j s).pending = s.pending := rfl

/-! ### `setLink` -/

@[simp] theorem setLink_timebase (l : Link) (s : State) : (setLink l s).timebase = s.timebase := rfl
@[simp] theorem setLink_channels (l : Link) (s : State) : (setLink l s).channels = s.channels := rfl
@[simp] theorem setLink_pairs (l : Link) (s : State) : (setLink l s).pairs = s.pairs := rfl
@[simp] theorem setLink_records (l : Link) (s : State) : (setLink l s).records = s.records := rfl
@[simp] theorem setLink_sections (l : Link) (s : State) : (setLink l s).sections = s.sections := rfl
@[simp] theorem setLink_jobs (l : Link) (s : State) : (setLink l s).jobs = s.jobs := rfl
@[simp] theorem setLink_jobCounter (l : Link) (s : State) : (setLink l s).jobCounter = s.jobCounter := rfl
@[simp] theorem setLink_queues (l : Link) (s : State) : (setLink l s).queues = s.queues := rfl
@[simp] theorem setLink_trigger (l : Link) (s : State) : (setLink l s).trigger = s.trigger := rfl
@[simp] theorem setLink_analysisQueue (l : Link) (s : State) : (setLink l s).analysisQueue = s.analysisQueue := rfl
@[simp] theorem setLink_engine (l : Link) (s : State) : (setLink l s).engine = s.engine := rfl
@[simp] theorem setLink_limits (l : Link) (s : State) : (setLink l s).limits = s.limits := rfl
@[simp] theorem setLink_results (l : Link) (s : State) : (setLink l s).results = s.results := rfl
@[simp] theorem setLink_notices (l : Link) (s : State) : (setLink l s).notices = s.notices := rfl
@[simp] theorem setLink_link (l : Link) (s : State) : (setLink l s).link = l := rfl
@[simp] theorem setLink_freeIndex (l : Link) (s : State) : (setLink l s).freeIndex = s.freeIndex := rfl
@[simp] theorem setLink_pending (l : Link) (s : State) : (setLink l s).pending = s.pending := rfl

/-! ### `setEngine` -/

@[simp] theorem setEngine_timebase (e : Engine) (s : State) : (setEngine e s).timebase = s.timebase := rfl
@[simp] theorem setEngine_channels (e : Engine) (s : State) : (setEngine e s).channels = s.channels := rfl
@[simp] theorem setEngine_pairs (e : Engine) (s : State) : (setEngine e s).pairs = s.pairs := rfl
@[simp] theorem setEngine_records (e : Engine) (s : State) : (setEngine e s).records = s.records := rfl
@[simp] theorem setEngine_sections (e : Engine) (s : State) : (setEngine e s).sections = s.sections := rfl
@[simp] theorem setEngine_jobs (e : Engine) (s : State) : (setEngine e s).jobs = s.jobs := rfl
@[simp] theorem setEngine_jobCounter (e : Engine) (s : State) : (setEngine e s).jobCounter = s.jobCounter := rfl
@[simp] theorem setEngine_queues (e : Engine) (s : State) : (setEngine e s).queues = s.queues := rfl
@[simp] theorem setEngine_trigger (e : Engine) (s : State) : (setEngine e s).trigger = s.trigger := rfl
@[simp] theorem setEngine_analysisQueue (e : Engine) (s : State) :
    (setEngine e s).analysisQueue = s.analysisQueue := rfl
@[simp] theorem setEngine_engine (e : Engine) (s : State) : (setEngine e s).engine = e := rfl
@[simp] theorem setEngine_limits (e : Engine) (s : State) : (setEngine e s).limits = s.limits := rfl
@[simp] theorem setEngine_results (e : Engine) (s : State) : (setEngine e s).results = s.results := rfl
@[simp] theorem setEngine_notices (e : Engine) (s : State) : (setEngine e s).notices = s.notices := rfl
@[simp] theorem setEngine_link (e : Engine) (s : State) : (setEngine e s).link = s.link := rfl
@[simp] theorem setEngine_freeIndex (e : Engine) (s : State) : (setEngine e s).freeIndex = s.freeIndex := rfl
@[simp] theorem setEngine_pending (e : Engine) (s : State) : (setEngine e s).pending = s.pending := rfl

/-! ### `setEntry` -/

@[simp] theorem setEntry_timebase (index : Fin 64) (e : Option LimitSet) (s : State) :
    (setEntry index e s).timebase = s.timebase := rfl
@[simp] theorem setEntry_channels (index : Fin 64) (e : Option LimitSet) (s : State) :
    (setEntry index e s).channels = s.channels := rfl
@[simp] theorem setEntry_pairs (index : Fin 64) (e : Option LimitSet) (s : State) :
    (setEntry index e s).pairs = s.pairs := rfl
@[simp] theorem setEntry_records (index : Fin 64) (e : Option LimitSet) (s : State) :
    (setEntry index e s).records = s.records := rfl
@[simp] theorem setEntry_sections (index : Fin 64) (e : Option LimitSet) (s : State) :
    (setEntry index e s).sections = s.sections := rfl
@[simp] theorem setEntry_jobs (index : Fin 64) (e : Option LimitSet) (s : State) :
    (setEntry index e s).jobs = s.jobs := rfl
@[simp] theorem setEntry_jobCounter (index : Fin 64) (e : Option LimitSet) (s : State) :
    (setEntry index e s).jobCounter = s.jobCounter := rfl
@[simp] theorem setEntry_queues (index : Fin 64) (e : Option LimitSet) (s : State) :
    (setEntry index e s).queues = s.queues := rfl
@[simp] theorem setEntry_trigger (index : Fin 64) (e : Option LimitSet) (s : State) :
    (setEntry index e s).trigger = s.trigger := rfl
@[simp] theorem setEntry_analysisQueue (index : Fin 64) (e : Option LimitSet) (s : State) :
    (setEntry index e s).analysisQueue = s.analysisQueue := rfl
@[simp] theorem setEntry_engine (index : Fin 64) (e : Option LimitSet) (s : State) :
    (setEntry index e s).engine = s.engine := rfl
@[simp] theorem setEntry_limits (index : Fin 64) (e : Option LimitSet) (s : State) :
    (setEntry index e s).limits = { s.limits with entries := s.limits.entries.set index e } := rfl
@[simp] theorem setEntry_results (index : Fin 64) (e : Option LimitSet) (s : State) :
    (setEntry index e s).results = s.results := rfl
@[simp] theorem setEntry_notices (index : Fin 64) (e : Option LimitSet) (s : State) :
    (setEntry index e s).notices = s.notices := rfl
@[simp] theorem setEntry_link (index : Fin 64) (e : Option LimitSet) (s : State) :
    (setEntry index e s).link = s.link := rfl
@[simp] theorem setEntry_freeIndex (index : Fin 64) (e : Option LimitSet) (s : State) :
    (setEntry index e s).freeIndex = s.freeIndex := rfl
@[simp] theorem setEntry_pending (index : Fin 64) (e : Option LimitSet) (s : State) :
    (setEntry index e s).pending = s.pending := rfl

/-! ### `raise` -/

@[simp] theorem raise_timebase (flag : NoticeFlag) (s : State) : (raise flag s).timebase = s.timebase := rfl
@[simp] theorem raise_channels (flag : NoticeFlag) (s : State) : (raise flag s).channels = s.channels := rfl
@[simp] theorem raise_pairs (flag : NoticeFlag) (s : State) : (raise flag s).pairs = s.pairs := rfl
@[simp] theorem raise_records (flag : NoticeFlag) (s : State) : (raise flag s).records = s.records := rfl
@[simp] theorem raise_sections (flag : NoticeFlag) (s : State) : (raise flag s).sections = s.sections := rfl
@[simp] theorem raise_jobs (flag : NoticeFlag) (s : State) : (raise flag s).jobs = s.jobs := rfl
@[simp] theorem raise_jobCounter (flag : NoticeFlag) (s : State) : (raise flag s).jobCounter = s.jobCounter := rfl
@[simp] theorem raise_queues (flag : NoticeFlag) (s : State) : (raise flag s).queues = s.queues := rfl
@[simp] theorem raise_trigger (flag : NoticeFlag) (s : State) : (raise flag s).trigger = s.trigger := rfl
@[simp] theorem raise_analysisQueue (flag : NoticeFlag) (s : State) :
    (raise flag s).analysisQueue = s.analysisQueue := rfl
@[simp] theorem raise_engine (flag : NoticeFlag) (s : State) : (raise flag s).engine = s.engine := rfl
@[simp] theorem raise_limits (flag : NoticeFlag) (s : State) : (raise flag s).limits = s.limits := rfl
@[simp] theorem raise_results (flag : NoticeFlag) (s : State) : (raise flag s).results = s.results := rfl
@[simp] theorem raise_notices (flag : NoticeFlag) (s : State) : (raise flag s).notices = raiseIn s.notices flag := rfl
@[simp] theorem raise_link (flag : NoticeFlag) (s : State) : (raise flag s).link = s.link := rfl
@[simp] theorem raise_freeIndex (flag : NoticeFlag) (s : State) : (raise flag s).freeIndex = s.freeIndex := rfl
@[simp] theorem raise_pending (flag : NoticeFlag) (s : State) : (raise flag s).pending = s.pending := rfl

/-! ### `markRead` -/

@[simp] theorem markRead_timebase (site : Site) (r : ResultRecord) (s : State) :
    (markRead site r s).timebase = s.timebase := rfl
@[simp] theorem markRead_channels (site : Site) (r : ResultRecord) (s : State) :
    (markRead site r s).channels = s.channels := rfl
@[simp] theorem markRead_pairs (site : Site) (r : ResultRecord) (s : State) : (markRead site r s).pairs = s.pairs := rfl
@[simp] theorem markRead_records (site : Site) (r : ResultRecord) (s : State) :
    (markRead site r s).records = s.records := rfl
@[simp] theorem markRead_sections (site : Site) (r : ResultRecord) (s : State) :
    (markRead site r s).sections = s.sections := rfl
@[simp] theorem markRead_jobs (site : Site) (r : ResultRecord) (s : State) : (markRead site r s).jobs = s.jobs := rfl
@[simp] theorem markRead_jobCounter (site : Site) (r : ResultRecord) (s : State) :
    (markRead site r s).jobCounter = s.jobCounter := rfl
@[simp] theorem markRead_queues (site : Site) (r : ResultRecord) (s : State) :
    (markRead site r s).queues = s.queues := rfl
@[simp] theorem markRead_trigger (site : Site) (r : ResultRecord) (s : State) :
    (markRead site r s).trigger = s.trigger := rfl
@[simp] theorem markRead_analysisQueue (site : Site) (r : ResultRecord) (s : State) :
    (markRead site r s).analysisQueue = s.analysisQueue := rfl
@[simp] theorem markRead_engine (site : Site) (r : ResultRecord) (s : State) :
    (markRead site r s).engine = s.engine := rfl
@[simp] theorem markRead_limits (site : Site) (r : ResultRecord) (s : State) :
    (markRead site r s).limits = s.limits := rfl
@[simp] theorem markRead_results (site : Site) (r : ResultRecord) (s : State) :
    (markRead site r s).results = { slots := s.results.slots.set site (.read r), completion := s.results.completion.filter (· != site) } := rfl
@[simp] theorem markRead_notices (site : Site) (r : ResultRecord) (s : State) :
    (markRead site r s).notices = s.notices := rfl
@[simp] theorem markRead_link (site : Site) (r : ResultRecord) (s : State) : (markRead site r s).link = s.link := rfl
@[simp] theorem markRead_freeIndex (site : Site) (r : ResultRecord) (s : State) :
    (markRead site r s).freeIndex = s.freeIndex := rfl
@[simp] theorem markRead_pending (site : Site) (r : ResultRecord) (s : State) :
    (markRead site r s).pending = s.pending := rfl

/-! ### `clearDue` -/

@[simp] theorem clearDue_timebase (s : State) : (clearDue s).timebase = s.timebase := rfl
@[simp] theorem clearDue_channels (s : State) : (clearDue s).channels = s.channels := rfl
@[simp] theorem clearDue_pairs (s : State) : (clearDue s).pairs = s.pairs := rfl
@[simp] theorem clearDue_records (s : State) : (clearDue s).records = s.records := rfl
@[simp] theorem clearDue_sections (s : State) : (clearDue s).sections = s.sections := rfl
@[simp] theorem clearDue_jobs (s : State) : (clearDue s).jobs = s.jobs := rfl
@[simp] theorem clearDue_jobCounter (s : State) : (clearDue s).jobCounter = s.jobCounter := rfl
@[simp] theorem clearDue_queues (s : State) : (clearDue s).queues = s.queues := rfl
@[simp] theorem clearDue_trigger (s : State) : (clearDue s).trigger = s.trigger := rfl
@[simp] theorem clearDue_analysisQueue (s : State) : (clearDue s).analysisQueue = s.analysisQueue := rfl
@[simp] theorem clearDue_engine (s : State) : (clearDue s).engine = s.engine := rfl
@[simp] theorem clearDue_limits (s : State) : (clearDue s).limits = s.limits := rfl
@[simp] theorem clearDue_results (s : State) : (clearDue s).results = s.results := rfl
@[simp] theorem clearDue_notices (s : State) : (clearDue s).notices = { s.notices with due := false } := rfl
@[simp] theorem clearDue_link (s : State) : (clearDue s).link = s.link := rfl
@[simp] theorem clearDue_freeIndex (s : State) : (clearDue s).freeIndex = s.freeIndex := rfl
@[simp] theorem clearDue_pending (s : State) : (clearDue s).pending = s.pending := rfl

/-! ### `setReceiver` -/

@[simp] theorem setReceiver_timebase (r : Receiver) (s : State) : (setReceiver r s).timebase = s.timebase := rfl
@[simp] theorem setReceiver_channels (r : Receiver) (s : State) : (setReceiver r s).channels = s.channels := rfl
@[simp] theorem setReceiver_pairs (r : Receiver) (s : State) : (setReceiver r s).pairs = s.pairs := rfl
@[simp] theorem setReceiver_records (r : Receiver) (s : State) : (setReceiver r s).records = s.records := rfl
@[simp] theorem setReceiver_sections (r : Receiver) (s : State) : (setReceiver r s).sections = s.sections := rfl
@[simp] theorem setReceiver_jobs (r : Receiver) (s : State) : (setReceiver r s).jobs = s.jobs := rfl
@[simp] theorem setReceiver_jobCounter (r : Receiver) (s : State) : (setReceiver r s).jobCounter = s.jobCounter := rfl
@[simp] theorem setReceiver_queues (r : Receiver) (s : State) : (setReceiver r s).queues = s.queues := rfl
@[simp] theorem setReceiver_trigger (r : Receiver) (s : State) : (setReceiver r s).trigger = s.trigger := rfl
@[simp] theorem setReceiver_analysisQueue (r : Receiver) (s : State) :
    (setReceiver r s).analysisQueue = s.analysisQueue := rfl
@[simp] theorem setReceiver_engine (r : Receiver) (s : State) : (setReceiver r s).engine = s.engine := rfl
@[simp] theorem setReceiver_limits (r : Receiver) (s : State) : (setReceiver r s).limits = s.limits := rfl
@[simp] theorem setReceiver_results (r : Receiver) (s : State) : (setReceiver r s).results = s.results := rfl
@[simp] theorem setReceiver_notices (r : Receiver) (s : State) : (setReceiver r s).notices = s.notices := rfl
@[simp] theorem setReceiver_link (r : Receiver) (s : State) :
    (setReceiver r s).link = { s.link with receiver := r } := rfl
@[simp] theorem setReceiver_freeIndex (r : Receiver) (s : State) : (setReceiver r s).freeIndex = s.freeIndex := rfl
@[simp] theorem setReceiver_pending (r : Receiver) (s : State) : (setReceiver r s).pending = s.pending := rfl

/-! ### `send` -/

@[simp] theorem send_timebase (source : Source) (f : Frame) (s : State) : (send source f s).timebase = s.timebase := rfl
@[simp] theorem send_channels (source : Source) (f : Frame) (s : State) : (send source f s).channels = s.channels := rfl
@[simp] theorem send_pairs (source : Source) (f : Frame) (s : State) : (send source f s).pairs = s.pairs := rfl
@[simp] theorem send_records (source : Source) (f : Frame) (s : State) : (send source f s).records = s.records := rfl
@[simp] theorem send_sections (source : Source) (f : Frame) (s : State) : (send source f s).sections = s.sections := rfl
@[simp] theorem send_jobs (source : Source) (f : Frame) (s : State) : (send source f s).jobs = s.jobs := rfl
@[simp] theorem send_jobCounter (source : Source) (f : Frame) (s : State) :
    (send source f s).jobCounter = s.jobCounter := rfl
@[simp] theorem send_queues (source : Source) (f : Frame) (s : State) : (send source f s).queues = s.queues := rfl
@[simp] theorem send_trigger (source : Source) (f : Frame) (s : State) : (send source f s).trigger = s.trigger := rfl
@[simp] theorem send_analysisQueue (source : Source) (f : Frame) (s : State) :
    (send source f s).analysisQueue = s.analysisQueue := rfl
@[simp] theorem send_engine (source : Source) (f : Frame) (s : State) : (send source f s).engine = s.engine := rfl
@[simp] theorem send_limits (source : Source) (f : Frame) (s : State) : (send source f s).limits = s.limits := rfl
@[simp] theorem send_results (source : Source) (f : Frame) (s : State) : (send source f s).results = s.results := rfl
@[simp] theorem send_notices (source : Source) (f : Frame) (s : State) : (send source f s).notices = s.notices := rfl
@[simp] theorem send_link (source : Source) (f : Frame) (s : State) :
    (send source f s).link = { s.link with transmitter := .sending source f } := rfl
@[simp] theorem send_freeIndex (source : Source) (f : Frame) (s : State) :
    (send source f s).freeIndex = s.freeIndex := rfl
@[simp] theorem send_pending (source : Source) (f : Frame) (s : State) : (send source f s).pending = s.pending := rfl

/-! ### `passTicks` and `followIdle`, which update one field each -/

@[simp] theorem passTicks_channels (ticks : Nat) (s : State) : (passTicks ticks s).channels = s.channels := by
  unfold passTicks; split <;> rfl
@[simp] theorem passTicks_pairs (ticks : Nat) (s : State) : (passTicks ticks s).pairs = s.pairs := by
  unfold passTicks; split <;> rfl
@[simp] theorem passTicks_records (ticks : Nat) (s : State) : (passTicks ticks s).records = s.records := by
  unfold passTicks; split <;> rfl
@[simp] theorem passTicks_sections (ticks : Nat) (s : State) : (passTicks ticks s).sections = s.sections := by
  unfold passTicks; split <;> rfl
@[simp] theorem passTicks_jobs (ticks : Nat) (s : State) : (passTicks ticks s).jobs = s.jobs := by
  unfold passTicks; split <;> rfl
@[simp] theorem passTicks_jobCounter (ticks : Nat) (s : State) : (passTicks ticks s).jobCounter = s.jobCounter := by
  unfold passTicks; split <;> rfl
@[simp] theorem passTicks_queues (ticks : Nat) (s : State) : (passTicks ticks s).queues = s.queues := by
  unfold passTicks; split <;> rfl
@[simp] theorem passTicks_trigger (ticks : Nat) (s : State) : (passTicks ticks s).trigger = s.trigger := by
  unfold passTicks; split <;> rfl
@[simp] theorem passTicks_analysisQueue (ticks : Nat) (s : State) : (passTicks ticks s).analysisQueue = s.analysisQueue := by
  unfold passTicks; split <;> rfl
@[simp] theorem passTicks_engine (ticks : Nat) (s : State) : (passTicks ticks s).engine = s.engine := by
  unfold passTicks; split <;> rfl
@[simp] theorem passTicks_limits (ticks : Nat) (s : State) : (passTicks ticks s).limits = s.limits := by
  unfold passTicks; split <;> rfl
@[simp] theorem passTicks_results (ticks : Nat) (s : State) : (passTicks ticks s).results = s.results := by
  unfold passTicks; split <;> rfl
@[simp] theorem passTicks_notices (ticks : Nat) (s : State) : (passTicks ticks s).notices = s.notices := by
  unfold passTicks; split <;> rfl
@[simp] theorem passTicks_link (ticks : Nat) (s : State) : (passTicks ticks s).link = s.link := by
  unfold passTicks; split <;> rfl
@[simp] theorem passTicks_freeIndex (ticks : Nat) (s : State) : (passTicks ticks s).freeIndex = s.freeIndex := by
  unfold passTicks; split <;> rfl
@[simp] theorem passTicks_pending (ticks : Nat) (s : State) : (passTicks ticks s).pending = s.pending := by
  unfold passTicks; split <;> rfl
@[simp] theorem followIdle_timebase (s : State) : (followIdle s).timebase = s.timebase := by
  unfold followIdle; dsimp only; split <;> rfl
@[simp] theorem followIdle_channels (s : State) : (followIdle s).channels = s.channels := by
  unfold followIdle; dsimp only; split <;> rfl
@[simp] theorem followIdle_pairs (s : State) : (followIdle s).pairs = s.pairs := by
  unfold followIdle; dsimp only; split <;> rfl
@[simp] theorem followIdle_records (s : State) : (followIdle s).records = s.records := by
  unfold followIdle; dsimp only; split <;> rfl
@[simp] theorem followIdle_sections (s : State) : (followIdle s).sections = s.sections := by
  unfold followIdle; dsimp only; split <;> rfl
@[simp] theorem followIdle_jobs (s : State) : (followIdle s).jobs = s.jobs := by
  unfold followIdle; dsimp only; split <;> rfl
@[simp] theorem followIdle_jobCounter (s : State) : (followIdle s).jobCounter = s.jobCounter := by
  unfold followIdle; dsimp only; split <;> rfl
@[simp] theorem followIdle_queues (s : State) : (followIdle s).queues = s.queues := by
  unfold followIdle; dsimp only; split <;> rfl
@[simp] theorem followIdle_trigger (s : State) : (followIdle s).trigger = s.trigger := by
  unfold followIdle; dsimp only; split <;> rfl
@[simp] theorem followIdle_analysisQueue (s : State) : (followIdle s).analysisQueue = s.analysisQueue := by
  unfold followIdle; dsimp only; split <;> rfl
@[simp] theorem followIdle_engine (s : State) : (followIdle s).engine = s.engine := by
  unfold followIdle; dsimp only; split <;> rfl
@[simp] theorem followIdle_limits (s : State) : (followIdle s).limits = s.limits := by
  unfold followIdle; dsimp only; split <;> rfl
@[simp] theorem followIdle_results (s : State) : (followIdle s).results = s.results := by
  unfold followIdle; dsimp only; split <;> rfl
@[simp] theorem followIdle_link (s : State) : (followIdle s).link = s.link := by
  unfold followIdle; dsimp only; split <;> rfl
@[simp] theorem followIdle_freeIndex (s : State) : (followIdle s).freeIndex = s.freeIndex := by
  unfold followIdle; dsimp only; split <;> rfl
@[simp] theorem followIdle_pending (s : State) : (followIdle s).pending = s.pending := by
  unfold followIdle; dsimp only; split <;> rfl

/-! ### Accessors after updates -/

@[simp] theorem put_of_same {α : Type} (p : PerGroup α) (g : Group) (x : α) : (p.put g x).of g = x := by
  cases g <;> rfl

theorem put_of_other {α : Type} (p : PerGroup α) (g h : Group) (x : α) (ne : g ≠ h) : (p.put g x).of h = p.of h := by
  cases g <;> cases h <;> first | rfl | exact absurd rfl ne

@[simp] theorem channelOfState_setChannel_same (c : ChannelId) (x : Channel) (s : State) :
    channelOfState (setChannel c x s) c = x := by
  simp [channelOfState]

theorem channelOfState_setChannel_other (c d : ChannelId) (x : Channel) (s : State) (ne : c ≠ d) :
    channelOfState (setChannel c x s) d = channelOfState s d := by
  simp [channelOfState, Fin.val_ne_of_ne ne]

theorem channelOfState_setChannel (c d : ChannelId) (x : Channel) (s : State) :
    channelOfState (setChannel c x s) d = if c = d then x else channelOfState s d := by
  split
  · next h => subst h; simp
  · next h => exact channelOfState_setChannel_other c d x s h

theorem recordOf_setRecord (c d : ChannelId) (x : CalRecord) (s : State) :
    recordOf (setRecord c x s) d = if c = d then x else recordOf s d := by
  simp [recordOf, Vector.getElem_set, Fin.ext_iff]

theorem jobAt_setJob (a b : Site) (j : Option Job) (s : State) :
    jobAt (setJob a j s) b = if a = b then j else jobAt s b := by
  simp [jobAt, Vector.getElem_set, Fin.ext_iff]

theorem sectionOf_setSection (g h : Group) (x : CalSection) (s : State) :
    sectionOf (setSection g x s) h = if g = h then x else sectionOf s h := by
  cases g <;> cases h <;> rfl

theorem pairOf_setPair (g h : Group) (x : PairUnit) (s : State) :
    pairOf (setPair g x s) h = if g = h then x else pairOf s h := by
  cases g <;> cases h <;> rfl

theorem queueOf_setQueue (g h : Group) (q : List Entry) (s : State) :
    queueOf (setQueue g q s) h = if g = h then q else queueOf s h := by
  cases g <;> cases h <;> rfl

@[simp] theorem channelOfState_setRecord (d : ChannelId) (c : ChannelId) (x : CalRecord) (s : State) :
    channelOfState (setRecord c x s) d = channelOfState s d := rfl
@[simp] theorem channelOfState_setPair (d : ChannelId) (g : Group) (x : PairUnit) (s : State) :
    channelOfState (setPair g x s) d = channelOfState s d := rfl
@[simp] theorem channelOfState_setSection (d : ChannelId) (g : Group) (x : CalSection) (s : State) :
    channelOfState (setSection g x s) d = channelOfState s d := rfl
@[simp] theorem channelOfState_setQueue (d : ChannelId) (g : Group) (q : List Entry) (s : State) :
    channelOfState (setQueue g q s) d = channelOfState s d := rfl
@[simp] theorem channelOfState_setJob (d : ChannelId) (site : Site) (j : Option Job) (s : State) :
    channelOfState (setJob site j s) d = channelOfState s d := rfl
@[simp] theorem channelOfState_setLink (d : ChannelId) (l : Link) (s : State) :
    channelOfState (setLink l s) d = channelOfState s d := rfl
@[simp] theorem channelOfState_setEngine (d : ChannelId) (e : Engine) (s : State) :
    channelOfState (setEngine e s) d = channelOfState s d := rfl
@[simp] theorem channelOfState_raise (d : ChannelId) (flag : NoticeFlag) (s : State) :
    channelOfState (raise flag s) d = channelOfState s d := rfl
@[simp] theorem channelOfState_passTicks (d : ChannelId) (ticks : Nat) (s : State) : channelOfState (passTicks ticks s) d = channelOfState s d := by
  simp [channelOfState]
@[simp] theorem channelOfState_followIdle (d : ChannelId) (s : State) : channelOfState (followIdle s) d = channelOfState s d := by
  simp [channelOfState]
@[simp] theorem recordOf_setChannel (d : ChannelId) (c : ChannelId) (x : Channel) (s : State) :
    recordOf (setChannel c x s) d = recordOf s d := rfl
@[simp] theorem recordOf_setPair (d : ChannelId) (g : Group) (x : PairUnit) (s : State) :
    recordOf (setPair g x s) d = recordOf s d := rfl
@[simp] theorem recordOf_setSection (d : ChannelId) (g : Group) (x : CalSection) (s : State) :
    recordOf (setSection g x s) d = recordOf s d := rfl
@[simp] theorem recordOf_setQueue (d : ChannelId) (g : Group) (q : List Entry) (s : State) :
    recordOf (setQueue g q s) d = recordOf s d := rfl
@[simp] theorem recordOf_setJob (d : ChannelId) (site : Site) (j : Option Job) (s : State) :
    recordOf (setJob site j s) d = recordOf s d := rfl
@[simp] theorem recordOf_setLink (d : ChannelId) (l : Link) (s : State) : recordOf (setLink l s) d = recordOf s d := rfl
@[simp] theorem recordOf_setEngine (d : ChannelId) (e : Engine) (s : State) :
    recordOf (setEngine e s) d = recordOf s d := rfl
@[simp] theorem recordOf_raise (d : ChannelId) (flag : NoticeFlag) (s : State) :
    recordOf (raise flag s) d = recordOf s d := rfl
@[simp] theorem recordOf_passTicks (d : ChannelId) (ticks : Nat) (s : State) : recordOf (passTicks ticks s) d = recordOf s d := by
  simp [recordOf]
@[simp] theorem recordOf_followIdle (d : ChannelId) (s : State) : recordOf (followIdle s) d = recordOf s d := by
  simp [recordOf]
@[simp] theorem jobAt_setChannel (d : Site) (c : ChannelId) (x : Channel) (s : State) :
    jobAt (setChannel c x s) d = jobAt s d := rfl
@[simp] theorem jobAt_setRecord (d : Site) (c : ChannelId) (x : CalRecord) (s : State) :
    jobAt (setRecord c x s) d = jobAt s d := rfl
@[simp] theorem jobAt_setPair (d : Site) (g : Group) (x : PairUnit) (s : State) :
    jobAt (setPair g x s) d = jobAt s d := rfl
@[simp] theorem jobAt_setSection (d : Site) (g : Group) (x : CalSection) (s : State) :
    jobAt (setSection g x s) d = jobAt s d := rfl
@[simp] theorem jobAt_setQueue (d : Site) (g : Group) (q : List Entry) (s : State) :
    jobAt (setQueue g q s) d = jobAt s d := rfl
@[simp] theorem jobAt_setLink (d : Site) (l : Link) (s : State) : jobAt (setLink l s) d = jobAt s d := rfl
@[simp] theorem jobAt_setEngine (d : Site) (e : Engine) (s : State) : jobAt (setEngine e s) d = jobAt s d := rfl
@[simp] theorem jobAt_raise (d : Site) (flag : NoticeFlag) (s : State) : jobAt (raise flag s) d = jobAt s d := rfl
@[simp] theorem jobAt_passTicks (d : Site) (ticks : Nat) (s : State) : jobAt (passTicks ticks s) d = jobAt s d := by
  simp [jobAt]
@[simp] theorem jobAt_followIdle (d : Site) (s : State) : jobAt (followIdle s) d = jobAt s d := by
  simp [jobAt]
@[simp] theorem sectionOf_setChannel (d : Group) (c : ChannelId) (x : Channel) (s : State) :
    sectionOf (setChannel c x s) d = sectionOf s d := rfl
@[simp] theorem sectionOf_setRecord (d : Group) (c : ChannelId) (x : CalRecord) (s : State) :
    sectionOf (setRecord c x s) d = sectionOf s d := rfl
@[simp] theorem sectionOf_setPair (d : Group) (g : Group) (x : PairUnit) (s : State) :
    sectionOf (setPair g x s) d = sectionOf s d := rfl
@[simp] theorem sectionOf_setQueue (d : Group) (g : Group) (q : List Entry) (s : State) :
    sectionOf (setQueue g q s) d = sectionOf s d := rfl
@[simp] theorem sectionOf_setJob (d : Group) (site : Site) (j : Option Job) (s : State) :
    sectionOf (setJob site j s) d = sectionOf s d := rfl
@[simp] theorem sectionOf_setLink (d : Group) (l : Link) (s : State) : sectionOf (setLink l s) d = sectionOf s d := rfl
@[simp] theorem sectionOf_setEngine (d : Group) (e : Engine) (s : State) :
    sectionOf (setEngine e s) d = sectionOf s d := rfl
@[simp] theorem sectionOf_raise (d : Group) (flag : NoticeFlag) (s : State) :
    sectionOf (raise flag s) d = sectionOf s d := rfl
@[simp] theorem sectionOf_passTicks (d : Group) (ticks : Nat) (s : State) : sectionOf (passTicks ticks s) d = sectionOf s d := by
  simp [sectionOf]
@[simp] theorem sectionOf_followIdle (d : Group) (s : State) : sectionOf (followIdle s) d = sectionOf s d := by
  simp [sectionOf]
@[simp] theorem pairOf_setChannel (d : Group) (c : ChannelId) (x : Channel) (s : State) :
    pairOf (setChannel c x s) d = pairOf s d := rfl
@[simp] theorem pairOf_setRecord (d : Group) (c : ChannelId) (x : CalRecord) (s : State) :
    pairOf (setRecord c x s) d = pairOf s d := rfl
@[simp] theorem pairOf_setSection (d : Group) (g : Group) (x : CalSection) (s : State) :
    pairOf (setSection g x s) d = pairOf s d := rfl
@[simp] theorem pairOf_setQueue (d : Group) (g : Group) (q : List Entry) (s : State) :
    pairOf (setQueue g q s) d = pairOf s d := rfl
@[simp] theorem pairOf_setJob (d : Group) (site : Site) (j : Option Job) (s : State) :
    pairOf (setJob site j s) d = pairOf s d := rfl
@[simp] theorem pairOf_setLink (d : Group) (l : Link) (s : State) : pairOf (setLink l s) d = pairOf s d := rfl
@[simp] theorem pairOf_setEngine (d : Group) (e : Engine) (s : State) : pairOf (setEngine e s) d = pairOf s d := rfl
@[simp] theorem pairOf_raise (d : Group) (flag : NoticeFlag) (s : State) : pairOf (raise flag s) d = pairOf s d := rfl
@[simp] theorem pairOf_passTicks (d : Group) (ticks : Nat) (s : State) : pairOf (passTicks ticks s) d = pairOf s d := by
  simp [pairOf]
@[simp] theorem pairOf_followIdle (d : Group) (s : State) : pairOf (followIdle s) d = pairOf s d := by
  simp [pairOf]
@[simp] theorem queueOf_setChannel (d : Group) (c : ChannelId) (x : Channel) (s : State) :
    queueOf (setChannel c x s) d = queueOf s d := rfl
@[simp] theorem queueOf_setRecord (d : Group) (c : ChannelId) (x : CalRecord) (s : State) :
    queueOf (setRecord c x s) d = queueOf s d := rfl
@[simp] theorem queueOf_setPair (d : Group) (g : Group) (x : PairUnit) (s : State) :
    queueOf (setPair g x s) d = queueOf s d := rfl
@[simp] theorem queueOf_setSection (d : Group) (g : Group) (x : CalSection) (s : State) :
    queueOf (setSection g x s) d = queueOf s d := rfl
@[simp] theorem queueOf_setJob (d : Group) (site : Site) (j : Option Job) (s : State) :
    queueOf (setJob site j s) d = queueOf s d := rfl
@[simp] theorem queueOf_setLink (d : Group) (l : Link) (s : State) : queueOf (setLink l s) d = queueOf s d := rfl
@[simp] theorem queueOf_setEngine (d : Group) (e : Engine) (s : State) : queueOf (setEngine e s) d = queueOf s d := rfl
@[simp] theorem queueOf_raise (d : Group) (flag : NoticeFlag) (s : State) :
    queueOf (raise flag s) d = queueOf s d := rfl
@[simp] theorem queueOf_passTicks (d : Group) (ticks : Nat) (s : State) : queueOf (passTicks ticks s) d = queueOf s d := by
  simp [queueOf]
@[simp] theorem queueOf_followIdle (d : Group) (s : State) : queueOf (followIdle s) d = queueOf s d := by
  simp [queueOf]

end Sys2Proof.Machine
end

