-- ==== Sys2Proof/Laws/Operations.lean ====
section
/-! SUPPORT. What the shared operations can do: the dispatchers change only queues, jobs, channels, pair units, sections and
records; the ends of a job and of a capture; and what each leaves alone. -/

namespace Sys2Proof.Machine

/-! ### The dispatchers -/

/-- A state that differs from `s` only where a dispatch may change it, and has there what `t` has. -/
def outsideDispatch (s t : State) : State :=
  { s with
    queues := t.queues, jobs := t.jobs, channels := t.channels, pairs := t.pairs, sections := t.sections
    records := t.records }

theorem foldDispatch_outside (j : Job) (cs : List ChannelId) (s : State) :
    cs.foldl (takeDispatch j) s = { s with channels := (cs.foldl (takeDispatch j) s).channels } := by
  induction cs generalizing s with
  | nil => rfl
  | cons c cs ih => exact ih (takeDispatch j s c)

theorem dispatchJob_outside (g : Group) (j : Job) (cs : List ChannelId) (rest : List Entry) (s : State) :
    dispatchJob g j cs rest s = outsideDispatch s (dispatchJob g j cs rest s) := by
  unfold dispatchJob
  dsimp only
  rw [foldDispatch_outside]
  split <;> rfl

/-- What an examination of a head that dispatches it does: a calibration entry or the job entry at the head. -/
theorem examineHead_cases {g : Group} {s t : State} (h : examineHead g s = some t) :
    (∃ c rest, queueOf s g = .calibration c :: rest ∧ calibrationCanRun s g c = true ∧ t = dispatchCalibration g c rest s) ∨
    ∃ id site rest j cs, queueOf s g = .job id site :: rest ∧ jobAt s site = some j ∧ j.id = id ∧
      channelsFor s g j = some cs ∧ t = dispatchJob g j cs rest s := by
  unfold examineHead at h
  split at h
  · exact absurd h (by simp)
  · next c rest hq =>
    split at h
    · next hc => exact .inl ⟨c, rest, hq, hc, (Option.some.inj h).symm⟩
    · exact absurd h (by simp)
  · next id site rest hq =>
    split at h
    · exact absurd h (by simp)
    · next j hj =>
      split at h
      · next hid =>
        obtain ⟨cs, hcs, rfl⟩ := Option.map_eq_some_iff.mp h
        exact .inr ⟨id, site, rest, j, cs, hq, hj, hid, hcs, rfl⟩
      · exact absurd h (by simp)

theorem examineHead_outside {g : Group} {s t : State} (h : examineHead g s = some t) : t = outsideDispatch s t := by
  rcases examineHead_cases h with ⟨c, rest, -, -, rfl⟩ | ⟨id, site, rest, j, cs, -, -, -, -, rfl⟩
  · rfl
  · exact dispatchJob_outside ..

/-- What one dispatch keeps, an examination keeps. -/
theorem examine_preserves {P : State → Prop} {g : Group} (h : ∀ s t, P s → examineHead g s = some t → P t) {s : State}
    (hs : P s) : P (examine g s) := by
  unfold examine
  generalize (queueOf s g).length = n
  induction n generalizing s with
  | zero => exact hs
  | succ n ih =>
    unfold examineTimes
    split
    · next t ht => exact ih (h s t hs ht)
    · exact hs

/-- An examination changes nothing but queues, jobs, channels, pair units, sections and records. -/
theorem examine_outside (g : Group) (s : State) : examine g s = outsideDispatch s (examine g s) :=
  examine_preserves (P := fun t => t = outsideDispatch s t)
    (fun _ _ ht hd => (examineHead_outside hd).trans (by rw [ht]; rfl)) rfl

/-- A head that cannot run leaves the queue as it is. -/
theorem examine_of_waits {g : Group} {s : State} (h : examineHead g s = none) : examine g s = s := by
  unfold examine
  cases (queueOf s g).length with
  | zero => rfl
  | succ n => unfold examineTimes; rw [h]

theorem examine_of_empty {g : Group} {s : State} (h : queueOf s g = []) : examine g s = s := by
  apply examine_of_waits; unfold examineHead; rw [h]

/-- Without the coarse counter no channel qualifies (R69). -/
theorem qualifies_of_stopped {s : State} (h : s.timebase.refState ≠ .locked) (c : ChannelId) : qualifies s c = false := by
  simp [qualifies, counterRuns, h]

/-- While the reference is not LOCKED every head waits (R74). -/
theorem examine_of_stopped {g : Group} {s : State} (h : s.timebase.refState ≠ .locked) : examine g s = s := by
  apply examine_of_waits
  unfold examineHead
  split
  · rfl
  · simp [calibrationCanRun, counterRuns, h]
  · split
    · rfl
    · next j _ =>
      split
      · have : channelsFor s g j = none := by
          unfold channelsFor
          split
          · rfl
          · split
            · simp [qualifies_of_stopped h]
            · split <;> simp [anyChannel, qualifies_of_stopped h]
        simp [this]
      · rfl

@[simp] theorem examine_timebase (g : Group) (s : State) : (examine g s).timebase = s.timebase := by
  rw [examine_outside]; rfl

@[simp] theorem examineBoth_timebase (s : State) : (examineBoth s).timebase = s.timebase := by
  simp [examineBoth]

@[simp] theorem examine_jobCounter (g : Group) (s : State) : (examine g s).jobCounter = s.jobCounter := by
  rw [examine_outside]; rfl

@[simp] theorem examineBoth_jobCounter (s : State) : (examineBoth s).jobCounter = s.jobCounter := by
  simp [examineBoth]

@[simp] theorem examine_trigger (g : Group) (s : State) : (examine g s).trigger = s.trigger := by
  rw [examine_outside]; rfl

@[simp] theorem examineBoth_trigger (s : State) : (examineBoth s).trigger = s.trigger := by
  simp [examineBoth]

@[simp] theorem examine_analysisQueue (g : Group) (s : State) : (examine g s).analysisQueue = s.analysisQueue := by
  rw [examine_outside]; rfl

@[simp] theorem examineBoth_analysisQueue (s : State) : (examineBoth s).analysisQueue = s.analysisQueue := by
  simp [examineBoth]

@[simp] theorem examine_engine (g : Group) (s : State) : (examine g s).engine = s.engine := by
  rw [examine_outside]; rfl

@[simp] theorem examineBoth_engine (s : State) : (examineBoth s).engine = s.engine := by
  simp [examineBoth]

@[simp] theorem examine_limits (g : Group) (s : State) : (examine g s).limits = s.limits := by
  rw [examine_outside]; rfl

@[simp] theorem examineBoth_limits (s : State) : (examineBoth s).limits = s.limits := by
  simp [examineBoth]

@[simp] theorem examine_results (g : Group) (s : State) : (examine g s).results = s.results := by
  rw [examine_outside]; rfl

@[simp] theorem examineBoth_results (s : State) : (examineBoth s).results = s.results := by
  simp [examineBoth]

@[simp] theorem examine_notices (g : Group) (s : State) : (examine g s).notices = s.notices := by
  rw [examine_outside]; rfl

@[simp] theorem examineBoth_notices (s : State) : (examineBoth s).notices = s.notices := by
  simp [examineBoth]

@[simp] theorem examine_link (g : Group) (s : State) : (examine g s).link = s.link := by
  rw [examine_outside]; rfl

@[simp] theorem examineBoth_link (s : State) : (examineBoth s).link = s.link := by
  simp [examineBoth]

@[simp] theorem examine_freeIndex (g : Group) (s : State) : (examine g s).freeIndex = s.freeIndex := by
  rw [examine_outside]; rfl

@[simp] theorem examineBoth_freeIndex (s : State) : (examineBoth s).freeIndex = s.freeIndex := by
  simp [examineBoth]

@[simp] theorem examine_pending (g : Group) (s : State) : (examine g s).pending = s.pending := by
  rw [examine_outside]; rfl

@[simp] theorem examineBoth_pending (s : State) : (examineBoth s).pending = s.pending := by
  simp [examineBoth]

/-! ### The ends of a job -/

@[simp] theorem post_timebase (r : ResultRecord) (s : State) : (post r s).timebase = s.timebase := by
  unfold post; dsimp only; split <;> rfl

@[simp] theorem post_channels (r : ResultRecord) (s : State) : (post r s).channels = s.channels := by
  unfold post; dsimp only; split <;> rfl

@[simp] theorem post_pairs (r : ResultRecord) (s : State) : (post r s).pairs = s.pairs := by
  unfold post; dsimp only; split <;> rfl

@[simp] theorem post_records (r : ResultRecord) (s : State) : (post r s).records = s.records := by
  unfold post; dsimp only; split <;> rfl

@[simp] theorem post_sections (r : ResultRecord) (s : State) : (post r s).sections = s.sections := by
  unfold post; dsimp only; split <;> rfl

@[simp] theorem post_jobs (r : ResultRecord) (s : State) : (post r s).jobs = s.jobs := by
  unfold post; dsimp only; split <;> rfl

@[simp] theorem post_jobCounter (r : ResultRecord) (s : State) : (post r s).jobCounter = s.jobCounter := by
  unfold post; dsimp only; split <;> rfl

@[simp] theorem post_queues (r : ResultRecord) (s : State) : (post r s).queues = s.queues := by
  unfold post; dsimp only; split <;> rfl

@[simp] theorem post_trigger (r : ResultRecord) (s : State) : (post r s).trigger = s.trigger := by
  unfold post; dsimp only; split <;> rfl

@[simp] theorem post_analysisQueue (r : ResultRecord) (s : State) : (post r s).analysisQueue = s.analysisQueue := by
  unfold post; dsimp only; split <;> rfl

@[simp] theorem post_engine (r : ResultRecord) (s : State) : (post r s).engine = s.engine := by
  unfold post; dsimp only; split <;> rfl

@[simp] theorem post_limits (r : ResultRecord) (s : State) : (post r s).limits = s.limits := by
  unfold post; dsimp only; split <;> rfl

@[simp] theorem post_link (r : ResultRecord) (s : State) : (post r s).link = s.link := by
  unfold post; dsimp only; split <;> rfl

@[simp] theorem post_freeIndex (r : ResultRecord) (s : State) : (post r s).freeIndex = s.freeIndex := by
  unfold post; dsimp only; split <;> rfl

@[simp] theorem post_pending (r : ResultRecord) (s : State) : (post r s).pending = s.pending := by
  unfold post; dsimp only; split <;> rfl

@[simp] theorem lowerInUse_timebase (j : Job) (s : State) : (lowerInUse j s).timebase = s.timebase := by
  unfold lowerInUse; split <;> rfl

@[simp] theorem lowerInUse_channels (j : Job) (s : State) : (lowerInUse j s).channels = s.channels := by
  unfold lowerInUse; split <;> rfl

@[simp] theorem lowerInUse_pairs (j : Job) (s : State) : (lowerInUse j s).pairs = s.pairs := by
  unfold lowerInUse; split <;> rfl

@[simp] theorem lowerInUse_records (j : Job) (s : State) : (lowerInUse j s).records = s.records := by
  unfold lowerInUse; split <;> rfl

@[simp] theorem lowerInUse_sections (j : Job) (s : State) : (lowerInUse j s).sections = s.sections := by
  unfold lowerInUse; split <;> rfl

@[simp] theorem lowerInUse_jobs (j : Job) (s : State) : (lowerInUse j s).jobs = s.jobs := by
  unfold lowerInUse; split <;> rfl

@[simp] theorem lowerInUse_jobCounter (j : Job) (s : State) : (lowerInUse j s).jobCounter = s.jobCounter := by
  unfold lowerInUse; split <;> rfl

@[simp] theorem lowerInUse_queues (j : Job) (s : State) : (lowerInUse j s).queues = s.queues := by
  unfold lowerInUse; split <;> rfl

@[simp] theorem lowerInUse_trigger (j : Job) (s : State) : (lowerInUse j s).trigger = s.trigger := by
  unfold lowerInUse; split <;> rfl

@[simp] theorem lowerInUse_analysisQueue (j : Job) (s : State) : (lowerInUse j s).analysisQueue = s.analysisQueue := by
  unfold lowerInUse; split <;> rfl

@[simp] theorem lowerInUse_engine (j : Job) (s : State) : (lowerInUse j s).engine = s.engine := by
  unfold lowerInUse; split <;> rfl

@[simp] theorem lowerInUse_results (j : Job) (s : State) : (lowerInUse j s).results = s.results := by
  unfold lowerInUse; split <;> rfl

@[simp] theorem lowerInUse_notices (j : Job) (s : State) : (lowerInUse j s).notices = s.notices := by
  unfold lowerInUse; split <;> rfl

@[simp] theorem lowerInUse_link (j : Job) (s : State) : (lowerInUse j s).link = s.link := by
  unfold lowerInUse; split <;> rfl

@[simp] theorem lowerInUse_freeIndex (j : Job) (s : State) : (lowerInUse j s).freeIndex = s.freeIndex := by
  unfold lowerInUse; split <;> rfl

@[simp] theorem lowerInUse_pending (j : Job) (s : State) : (lowerInUse j s).pending = s.pending := by
  unfold lowerInUse; split <;> rfl

@[simp] theorem finishJob_timebase (j : Job) (w : Working) (s : State) : (finishJob j w s).timebase = s.timebase := by
  simp [finishJob]

@[simp] theorem finishJob_channels (j : Job) (w : Working) (s : State) : (finishJob j w s).channels = s.channels := by
  simp [finishJob]

@[simp] theorem finishJob_pairs (j : Job) (w : Working) (s : State) : (finishJob j w s).pairs = s.pairs := by
  simp [finishJob]

@[simp] theorem finishJob_records (j : Job) (w : Working) (s : State) : (finishJob j w s).records = s.records := by
  simp [finishJob]

@[simp] theorem finishJob_sections (j : Job) (w : Working) (s : State) : (finishJob j w s).sections = s.sections := by
  simp [finishJob]

@[simp] theorem finishJob_jobCounter (j : Job) (w : Working) (s : State) : (finishJob j w s).jobCounter = s.jobCounter := by
  simp [finishJob]

@[simp] theorem finishJob_queues (j : Job) (w : Working) (s : State) : (finishJob j w s).queues = s.queues := by
  simp [finishJob]

@[simp] theorem finishJob_trigger (j : Job) (w : Working) (s : State) : (finishJob j w s).trigger = s.trigger := by
  simp [finishJob]

@[simp] theorem finishJob_analysisQueue (j : Job) (w : Working) (s : State) : (finishJob j w s).analysisQueue = s.analysisQueue := by
  simp [finishJob]

@[simp] theorem finishJob_engine (j : Job) (w : Working) (s : State) : (finishJob j w s).engine = s.engine := by
  simp [finishJob]

@[simp] theorem finishJob_link (j : Job) (w : Working) (s : State) : (finishJob j w s).link = s.link := by
  simp [finishJob]

@[simp] theorem finishJob_freeIndex (j : Job) (w : Working) (s : State) : (finishJob j w s).freeIndex = s.freeIndex := by
  simp [finishJob]

@[simp] theorem finishJob_pending (j : Job) (w : Working) (s : State) : (finishJob j w s).pending = s.pending := by
  simp [finishJob]

@[simp] theorem endJob_timebase (id : Nat) (status : Ending) (s : State) : (endJob id status s).timebase = s.timebase := by
  unfold endJob; split <;> simp

@[simp] theorem endJob_channels (id : Nat) (status : Ending) (s : State) : (endJob id status s).channels = s.channels := by
  unfold endJob; split <;> simp

@[simp] theorem endJob_pairs (id : Nat) (status : Ending) (s : State) : (endJob id status s).pairs = s.pairs := by
  unfold endJob; split <;> simp

@[simp] theorem endJob_records (id : Nat) (status : Ending) (s : State) : (endJob id status s).records = s.records := by
  unfold endJob; split <;> simp

@[simp] theorem endJob_sections (id : Nat) (status : Ending) (s : State) : (endJob id status s).sections = s.sections := by
  unfold endJob; split <;> simp

@[simp] theorem endJob_jobCounter (id : Nat) (status : Ending) (s : State) : (endJob id status s).jobCounter = s.jobCounter := by
  unfold endJob; split <;> simp

@[simp] theorem endJob_queues (id : Nat) (status : Ending) (s : State) : (endJob id status s).queues = s.queues := by
  unfold endJob; split <;> simp

@[simp] theorem endJob_trigger (id : Nat) (status : Ending) (s : State) : (endJob id status s).trigger = s.trigger := by
  unfold endJob; split <;> simp

@[simp] theorem endJob_analysisQueue (id : Nat) (status : Ending) (s : State) : (endJob id status s).analysisQueue = s.analysisQueue := by
  unfold endJob; split <;> simp

@[simp] theorem endJob_engine (id : Nat) (status : Ending) (s : State) : (endJob id status s).engine = s.engine := by
  unfold endJob; split <;> simp

@[simp] theorem endJob_link (id : Nat) (status : Ending) (s : State) : (endJob id status s).link = s.link := by
  unfold endJob; split <;> simp

@[simp] theorem endJob_freeIndex (id : Nat) (status : Ending) (s : State) : (endJob id status s).freeIndex = s.freeIndex := by
  unfold endJob; split <;> simp

@[simp] theorem endJob_pending (id : Nat) (status : Ending) (s : State) : (endJob id status s).pending = s.pending := by
  unfold endJob; split <;> simp

@[simp] theorem releaseChannel_timebase (c : ChannelId) (s : State) : (releaseChannel c s).timebase = s.timebase := by
  unfold releaseChannel; dsimp only; split <;> rfl

@[simp] theorem releaseChannel_pairs (c : ChannelId) (s : State) : (releaseChannel c s).pairs = s.pairs := by
  unfold releaseChannel; dsimp only; split <;> rfl

@[simp] theorem releaseChannel_records (c : ChannelId) (s : State) : (releaseChannel c s).records = s.records := by
  unfold releaseChannel; dsimp only; split <;> rfl

@[simp] theorem releaseChannel_sections (c : ChannelId) (s : State) : (releaseChannel c s).sections = s.sections := by
  unfold releaseChannel; dsimp only; split <;> rfl

@[simp] theorem releaseChannel_jobs (c : ChannelId) (s : State) : (releaseChannel c s).jobs = s.jobs := by
  unfold releaseChannel; dsimp only; split <;> rfl

@[simp] theorem releaseChannel_jobCounter (c : ChannelId) (s : State) : (releaseChannel c s).jobCounter = s.jobCounter := by
  unfold releaseChannel; dsimp only; split <;> rfl

@[simp] theorem releaseChannel_queues (c : ChannelId) (s : State) : (releaseChannel c s).queues = s.queues := by
  unfold releaseChannel; dsimp only; split <;> rfl

@[simp] theorem releaseChannel_trigger (c : ChannelId) (s : State) : (releaseChannel c s).trigger = s.trigger := by
  unfold releaseChannel; dsimp only; split <;> rfl

@[simp] theorem releaseChannel_analysisQueue (c : ChannelId) (s : State) : (releaseChannel c s).analysisQueue = s.analysisQueue := by
  unfold releaseChannel; dsimp only; split <;> rfl

@[simp] theorem releaseChannel_engine (c : ChannelId) (s : State) : (releaseChannel c s).engine = s.engine := by
  unfold releaseChannel; dsimp only; split <;> rfl

@[simp] theorem releaseChannel_limits (c : ChannelId) (s : State) : (releaseChannel c s).limits = s.limits := by
  unfold releaseChannel; dsimp only; split <;> rfl

@[simp] theorem releaseChannel_results (c : ChannelId) (s : State) : (releaseChannel c s).results = s.results := by
  unfold releaseChannel; dsimp only; split <;> rfl

@[simp] theorem releaseChannel_notices (c : ChannelId) (s : State) : (releaseChannel c s).notices = s.notices := by
  unfold releaseChannel; dsimp only; split <;> rfl

@[simp] theorem releaseChannel_link (c : ChannelId) (s : State) : (releaseChannel c s).link = s.link := by
  unfold releaseChannel; dsimp only; split <;> rfl

@[simp] theorem releaseChannel_freeIndex (c : ChannelId) (s : State) : (releaseChannel c s).freeIndex = s.freeIndex := by
  unfold releaseChannel; dsimp only; split <;> rfl

@[simp] theorem releaseChannel_pending (c : ChannelId) (s : State) : (releaseChannel c s).pending = s.pending := by
  unfold releaseChannel; dsimp only; split <;> rfl

@[simp] theorem stopCapture_timebase (c : ChannelId) (mode : Mode) (s : State) : (stopCapture c mode s).timebase = s.timebase := by
  unfold stopCapture; split <;> simp

@[simp] theorem stopCapture_records (c : ChannelId) (mode : Mode) (s : State) : (stopCapture c mode s).records = s.records := by
  unfold stopCapture; split <;> simp

@[simp] theorem stopCapture_sections (c : ChannelId) (mode : Mode) (s : State) : (stopCapture c mode s).sections = s.sections := by
  unfold stopCapture; split <;> simp

@[simp] theorem stopCapture_jobs (c : ChannelId) (mode : Mode) (s : State) : (stopCapture c mode s).jobs = s.jobs := by
  unfold stopCapture; split <;> simp

@[simp] theorem stopCapture_jobCounter (c : ChannelId) (mode : Mode) (s : State) : (stopCapture c mode s).jobCounter = s.jobCounter := by
  unfold stopCapture; split <;> simp

@[simp] theorem stopCapture_queues (c : ChannelId) (mode : Mode) (s : State) : (stopCapture c mode s).queues = s.queues := by
  unfold stopCapture; split <;> simp

@[simp] theorem stopCapture_trigger (c : ChannelId) (mode : Mode) (s : State) : (stopCapture c mode s).trigger = s.trigger := by
  unfold stopCapture; split <;> simp

@[simp] theorem stopCapture_analysisQueue (c : ChannelId) (mode : Mode) (s : State) : (stopCapture c mode s).analysisQueue = s.analysisQueue := by
  unfold stopCapture; split <;> simp

@[simp] theorem stopCapture_engine (c : ChannelId) (mode : Mode) (s : State) : (stopCapture c mode s).engine = s.engine := by
  unfold stopCapture; split <;> simp

@[simp] theorem stopCapture_limits (c : ChannelId) (mode : Mode) (s : State) : (stopCapture c mode s).limits = s.limits := by
  unfold stopCapture; split <;> simp

@[simp] theorem stopCapture_results (c : ChannelId) (mode : Mode) (s : State) : (stopCapture c mode s).results = s.results := by
  unfold stopCapture; split <;> simp

@[simp] theorem stopCapture_notices (c : ChannelId) (mode : Mode) (s : State) : (stopCapture c mode s).notices = s.notices := by
  unfold stopCapture; split <;> simp

@[simp] theorem stopCapture_link (c : ChannelId) (mode : Mode) (s : State) : (stopCapture c mode s).link = s.link := by
  unfold stopCapture; split <;> simp

@[simp] theorem stopCapture_freeIndex (c : ChannelId) (mode : Mode) (s : State) : (stopCapture c mode s).freeIndex = s.freeIndex := by
  unfold stopCapture; split <;> simp

@[simp] theorem stopCapture_pending (c : ChannelId) (mode : Mode) (s : State) : (stopCapture c mode s).pending = s.pending := by
  unfold stopCapture; split <;> simp

@[simp] theorem freeBank_timebase (c : ChannelId) (b : Fin 2) (s : State) : (freeBank c b s).timebase = s.timebase := by
  rfl

@[simp] theorem freeBank_pairs (c : ChannelId) (b : Fin 2) (s : State) : (freeBank c b s).pairs = s.pairs := by
  rfl

@[simp] theorem freeBank_records (c : ChannelId) (b : Fin 2) (s : State) : (freeBank c b s).records = s.records := by
  rfl

@[simp] theorem freeBank_sections (c : ChannelId) (b : Fin 2) (s : State) : (freeBank c b s).sections = s.sections := by
  rfl

@[simp] theorem freeBank_jobs (c : ChannelId) (b : Fin 2) (s : State) : (freeBank c b s).jobs = s.jobs := by
  rfl

@[simp] theorem freeBank_jobCounter (c : ChannelId) (b : Fin 2) (s : State) : (freeBank c b s).jobCounter = s.jobCounter := by
  rfl

@[simp] theorem freeBank_queues (c : ChannelId) (b : Fin 2) (s : State) : (freeBank c b s).queues = s.queues := by
  rfl

@[simp] theorem freeBank_trigger (c : ChannelId) (b : Fin 2) (s : State) : (freeBank c b s).trigger = s.trigger := by
  rfl

@[simp] theorem freeBank_analysisQueue (c : ChannelId) (b : Fin 2) (s : State) : (freeBank c b s).analysisQueue = s.analysisQueue := by
  rfl

@[simp] theorem freeBank_engine (c : ChannelId) (b : Fin 2) (s : State) : (freeBank c b s).engine = s.engine := by
  rfl

@[simp] theorem freeBank_limits (c : ChannelId) (b : Fin 2) (s : State) : (freeBank c b s).limits = s.limits := by
  rfl

@[simp] theorem freeBank_results (c : ChannelId) (b : Fin 2) (s : State) : (freeBank c b s).results = s.results := by
  rfl

@[simp] theorem freeBank_notices (c : ChannelId) (b : Fin 2) (s : State) : (freeBank c b s).notices = s.notices := by
  rfl

@[simp] theorem freeBank_link (c : ChannelId) (b : Fin 2) (s : State) : (freeBank c b s).link = s.link := by
  rfl

@[simp] theorem freeBank_freeIndex (c : ChannelId) (b : Fin 2) (s : State) : (freeBank c b s).freeIndex = s.freeIndex := by
  rfl

@[simp] theorem freeBank_pending (c : ChannelId) (b : Fin 2) (s : State) : (freeBank c b s).pending = s.pending := by
  rfl

@[simp] theorem freeItemBanks_timebase (item : Item) (s : State) : (freeItemBanks item s).timebase = s.timebase := by
  unfold freeItemBanks; dsimp only; split <;> rfl

@[simp] theorem freeItemBanks_pairs (item : Item) (s : State) : (freeItemBanks item s).pairs = s.pairs := by
  unfold freeItemBanks; dsimp only; split <;> rfl

@[simp] theorem freeItemBanks_records (item : Item) (s : State) : (freeItemBanks item s).records = s.records := by
  unfold freeItemBanks; dsimp only; split <;> rfl

@[simp] theorem freeItemBanks_sections (item : Item) (s : State) : (freeItemBanks item s).sections = s.sections := by
  unfold freeItemBanks; dsimp only; split <;> rfl

@[simp] theorem freeItemBanks_jobs (item : Item) (s : State) : (freeItemBanks item s).jobs = s.jobs := by
  unfold freeItemBanks; dsimp only; split <;> rfl

@[simp] theorem freeItemBanks_jobCounter (item : Item) (s : State) : (freeItemBanks item s).jobCounter = s.jobCounter := by
  unfold freeItemBanks; dsimp only; split <;> rfl

@[simp] theorem freeItemBanks_queues (item : Item) (s : State) : (freeItemBanks item s).queues = s.queues := by
  unfold freeItemBanks; dsimp only; split <;> rfl

@[simp] theorem freeItemBanks_trigger (item : Item) (s : State) : (freeItemBanks item s).trigger = s.trigger := by
  unfold freeItemBanks; dsimp only; split <;> rfl

@[simp] theorem freeItemBanks_analysisQueue (item : Item) (s : State) : (freeItemBanks item s).analysisQueue = s.analysisQueue := by
  unfold freeItemBanks; dsimp only; split <;> rfl

@[simp] theorem freeItemBanks_engine (item : Item) (s : State) : (freeItemBanks item s).engine = s.engine := by
  unfold freeItemBanks; dsimp only; split <;> rfl

@[simp] theorem freeItemBanks_limits (item : Item) (s : State) : (freeItemBanks item s).limits = s.limits := by
  unfold freeItemBanks; dsimp only; split <;> rfl

@[simp] theorem freeItemBanks_results (item : Item) (s : State) : (freeItemBanks item s).results = s.results := by
  unfold freeItemBanks; dsimp only; split <;> rfl

@[simp] theorem freeItemBanks_notices (item : Item) (s : State) : (freeItemBanks item s).notices = s.notices := by
  unfold freeItemBanks; dsimp only; split <;> rfl

@[simp] theorem freeItemBanks_link (item : Item) (s : State) : (freeItemBanks item s).link = s.link := by
  unfold freeItemBanks; dsimp only; split <;> rfl

@[simp] theorem freeItemBanks_freeIndex (item : Item) (s : State) : (freeItemBanks item s).freeIndex = s.freeIndex := by
  unfold freeItemBanks; dsimp only; split <;> rfl

@[simp] theorem freeItemBanks_pending (item : Item) (s : State) : (freeItemBanks item s).pending = s.pending := by
  unfold freeItemBanks; dsimp only; split <;> rfl

@[simp] theorem updateJob_timebase (id : Nat) (change : Job → Job) (s : State) : (updateJob id change s).timebase = s.timebase := by
  unfold updateJob; split <;> rfl

@[simp] theorem updateJob_channels (id : Nat) (change : Job → Job) (s : State) : (updateJob id change s).channels = s.channels := by
  unfold updateJob; split <;> rfl

@[simp] theorem updateJob_pairs (id : Nat) (change : Job → Job) (s : State) : (updateJob id change s).pairs = s.pairs := by
  unfold updateJob; split <;> rfl

@[simp] theorem updateJob_records (id : Nat) (change : Job → Job) (s : State) : (updateJob id change s).records = s.records := by
  unfold updateJob; split <;> rfl

@[simp] theorem updateJob_sections (id : Nat) (change : Job → Job) (s : State) : (updateJob id change s).sections = s.sections := by
  unfold updateJob; split <;> rfl

@[simp] theorem updateJob_jobCounter (id : Nat) (change : Job → Job) (s : State) : (updateJob id change s).jobCounter = s.jobCounter := by
  unfold updateJob; split <;> rfl

@[simp] theorem updateJob_queues (id : Nat) (change : Job → Job) (s : State) : (updateJob id change s).queues = s.queues := by
  unfold updateJob; split <;> rfl

@[simp] theorem updateJob_trigger (id : Nat) (change : Job → Job) (s : State) : (updateJob id change s).trigger = s.trigger := by
  unfold updateJob; split <;> rfl

@[simp] theorem updateJob_analysisQueue (id : Nat) (change : Job → Job) (s : State) : (updateJob id change s).analysisQueue = s.analysisQueue := by
  unfold updateJob; split <;> rfl

@[simp] theorem updateJob_engine (id : Nat) (change : Job → Job) (s : State) : (updateJob id change s).engine = s.engine := by
  unfold updateJob; split <;> rfl

@[simp] theorem updateJob_limits (id : Nat) (change : Job → Job) (s : State) : (updateJob id change s).limits = s.limits := by
  unfold updateJob; split <;> rfl

@[simp] theorem updateJob_results (id : Nat) (change : Job → Job) (s : State) : (updateJob id change s).results = s.results := by
  unfold updateJob; split <;> rfl

@[simp] theorem updateJob_notices (id : Nat) (change : Job → Job) (s : State) : (updateJob id change s).notices = s.notices := by
  unfold updateJob; split <;> rfl

@[simp] theorem updateJob_link (id : Nat) (change : Job → Job) (s : State) : (updateJob id change s).link = s.link := by
  unfold updateJob; split <;> rfl

@[simp] theorem updateJob_freeIndex (id : Nat) (change : Job → Job) (s : State) : (updateJob id change s).freeIndex = s.freeIndex := by
  unfold updateJob; split <;> rfl

@[simp] theorem updateJob_pending (id : Nat) (change : Job → Job) (s : State) : (updateJob id change s).pending = s.pending := by
  unfold updateJob; split <;> rfl

@[simp] theorem setJobState_timebase (id : Nat) (state : JobState) (s : State) : (setJobState id state s).timebase = s.timebase := by
  simp [setJobState]

@[simp] theorem setJobState_channels (id : Nat) (state : JobState) (s : State) : (setJobState id state s).channels = s.channels := by
  simp [setJobState]

@[simp] theorem setJobState_pairs (id : Nat) (state : JobState) (s : State) : (setJobState id state s).pairs = s.pairs := by
  simp [setJobState]

@[simp] theorem setJobState_records (id : Nat) (state : JobState) (s : State) : (setJobState id state s).records = s.records := by
  simp [setJobState]

@[simp] theorem setJobState_sections (id : Nat) (state : JobState) (s : State) : (setJobState id state s).sections = s.sections := by
  simp [setJobState]

@[simp] theorem setJobState_jobCounter (id : Nat) (state : JobState) (s : State) : (setJobState id state s).jobCounter = s.jobCounter := by
  simp [setJobState]

@[simp] theorem setJobState_queues (id : Nat) (state : JobState) (s : State) : (setJobState id state s).queues = s.queues := by
  simp [setJobState]

@[simp] theorem setJobState_trigger (id : Nat) (state : JobState) (s : State) : (setJobState id state s).trigger = s.trigger := by
  simp [setJobState]

@[simp] theorem setJobState_analysisQueue (id : Nat) (state : JobState) (s : State) : (setJobState id state s).analysisQueue = s.analysisQueue := by
  simp [setJobState]

@[simp] theorem setJobState_engine (id : Nat) (state : JobState) (s : State) : (setJobState id state s).engine = s.engine := by
  simp [setJobState]

@[simp] theorem setJobState_limits (id : Nat) (state : JobState) (s : State) : (setJobState id state s).limits = s.limits := by
  simp [setJobState]

@[simp] theorem setJobState_results (id : Nat) (state : JobState) (s : State) : (setJobState id state s).results = s.results := by
  simp [setJobState]

@[simp] theorem setJobState_notices (id : Nat) (state : JobState) (s : State) : (setJobState id state s).notices = s.notices := by
  simp [setJobState]

@[simp] theorem setJobState_link (id : Nat) (state : JobState) (s : State) : (setJobState id state s).link = s.link := by
  simp [setJobState]

@[simp] theorem setJobState_freeIndex (id : Nat) (state : JobState) (s : State) : (setJobState id state s).freeIndex = s.freeIndex := by
  simp [setJobState]

@[simp] theorem setJobState_pending (id : Nat) (state : JobState) (s : State) : (setJobState id state s).pending = s.pending := by
  simp [setJobState]

@[simp] theorem takeItem_timebase (s : State) : (takeItem s).timebase = s.timebase := by
  unfold takeItem; split <;> simp

@[simp] theorem takeItem_channels (s : State) : (takeItem s).channels = s.channels := by
  unfold takeItem; split <;> simp

@[simp] theorem takeItem_pairs (s : State) : (takeItem s).pairs = s.pairs := by
  unfold takeItem; split <;> simp

@[simp] theorem takeItem_records (s : State) : (takeItem s).records = s.records := by
  unfold takeItem; split <;> simp

@[simp] theorem takeItem_sections (s : State) : (takeItem s).sections = s.sections := by
  unfold takeItem; split <;> simp

@[simp] theorem takeItem_jobCounter (s : State) : (takeItem s).jobCounter = s.jobCounter := by
  unfold takeItem; split <;> simp

@[simp] theorem takeItem_queues (s : State) : (takeItem s).queues = s.queues := by
  unfold takeItem; split <;> simp

@[simp] theorem takeItem_trigger (s : State) : (takeItem s).trigger = s.trigger := by
  unfold takeItem; split <;> simp

@[simp] theorem takeItem_limits (s : State) : (takeItem s).limits = s.limits := by
  unfold takeItem; split <;> simp

@[simp] theorem takeItem_results (s : State) : (takeItem s).results = s.results := by
  unfold takeItem; split <;> simp

@[simp] theorem takeItem_notices (s : State) : (takeItem s).notices = s.notices := by
  unfold takeItem; split <;> simp

@[simp] theorem takeItem_link (s : State) : (takeItem s).link = s.link := by
  unfold takeItem; split <;> simp

@[simp] theorem takeItem_freeIndex (s : State) : (takeItem s).freeIndex = s.freeIndex := by
  unfold takeItem; split <;> simp

@[simp] theorem takeItem_pending (s : State) : (takeItem s).pending = s.pending := by
  unfold takeItem; split <;> simp

@[simp] theorem joinAnalysis_timebase (item : Item) (s : State) : (joinAnalysis item s).timebase = s.timebase := by
  simp [joinAnalysis]

@[simp] theorem joinAnalysis_channels (item : Item) (s : State) : (joinAnalysis item s).channels = s.channels := by
  simp [joinAnalysis]

@[simp] theorem joinAnalysis_pairs (item : Item) (s : State) : (joinAnalysis item s).pairs = s.pairs := by
  simp [joinAnalysis]

@[simp] theorem joinAnalysis_records (item : Item) (s : State) : (joinAnalysis item s).records = s.records := by
  simp [joinAnalysis]

@[simp] theorem joinAnalysis_sections (item : Item) (s : State) : (joinAnalysis item s).sections = s.sections := by
  simp [joinAnalysis]

@[simp] theorem joinAnalysis_jobCounter (item : Item) (s : State) : (joinAnalysis item s).jobCounter = s.jobCounter := by
  simp [joinAnalysis]

@[simp] theorem joinAnalysis_queues (item : Item) (s : State) : (joinAnalysis item s).queues = s.queues := by
  simp [joinAnalysis]

@[simp] theorem joinAnalysis_trigger (item : Item) (s : State) : (joinAnalysis item s).trigger = s.trigger := by
  simp [joinAnalysis]

@[simp] theorem joinAnalysis_limits (item : Item) (s : State) : (joinAnalysis item s).limits = s.limits := by
  simp [joinAnalysis]

@[simp] theorem joinAnalysis_results (item : Item) (s : State) : (joinAnalysis item s).results = s.results := by
  simp [joinAnalysis]

@[simp] theorem joinAnalysis_notices (item : Item) (s : State) : (joinAnalysis item s).notices = s.notices := by
  simp [joinAnalysis]

@[simp] theorem joinAnalysis_link (item : Item) (s : State) : (joinAnalysis item s).link = s.link := by
  simp [joinAnalysis]

@[simp] theorem joinAnalysis_freeIndex (item : Item) (s : State) : (joinAnalysis item s).freeIndex = s.freeIndex := by
  simp [joinAnalysis]

@[simp] theorem joinAnalysis_pending (item : Item) (s : State) : (joinAnalysis item s).pending = s.pending := by
  simp [joinAnalysis]

@[simp] theorem dropItem_timebase (id : Nat) (s : State) : (dropItem id s).timebase = s.timebase := by
  unfold dropItem; split <;> simp

@[simp] theorem dropItem_pairs (id : Nat) (s : State) : (dropItem id s).pairs = s.pairs := by
  unfold dropItem; split <;> simp

@[simp] theorem dropItem_records (id : Nat) (s : State) : (dropItem id s).records = s.records := by
  unfold dropItem; split <;> simp

@[simp] theorem dropItem_sections (id : Nat) (s : State) : (dropItem id s).sections = s.sections := by
  unfold dropItem; split <;> simp

@[simp] theorem dropItem_jobs (id : Nat) (s : State) : (dropItem id s).jobs = s.jobs := by
  unfold dropItem; split <;> simp

@[simp] theorem dropItem_jobCounter (id : Nat) (s : State) : (dropItem id s).jobCounter = s.jobCounter := by
  unfold dropItem; split <;> simp

@[simp] theorem dropItem_queues (id : Nat) (s : State) : (dropItem id s).queues = s.queues := by
  unfold dropItem; split <;> simp

@[simp] theorem dropItem_trigger (id : Nat) (s : State) : (dropItem id s).trigger = s.trigger := by
  unfold dropItem; split <;> simp

@[simp] theorem dropItem_engine (id : Nat) (s : State) : (dropItem id s).engine = s.engine := by
  unfold dropItem; split <;> simp

@[simp] theorem dropItem_limits (id : Nat) (s : State) : (dropItem id s).limits = s.limits := by
  unfold dropItem; split <;> simp

@[simp] theorem dropItem_results (id : Nat) (s : State) : (dropItem id s).results = s.results := by
  unfold dropItem; split <;> simp

@[simp] theorem dropItem_notices (id : Nat) (s : State) : (dropItem id s).notices = s.notices := by
  unfold dropItem; split <;> simp

@[simp] theorem dropItem_link (id : Nat) (s : State) : (dropItem id s).link = s.link := by
  unfold dropItem; split <;> simp

@[simp] theorem dropItem_freeIndex (id : Nat) (s : State) : (dropItem id s).freeIndex = s.freeIndex := by
  unfold dropItem; split <;> simp

@[simp] theorem dropItem_pending (id : Nat) (s : State) : (dropItem id s).pending = s.pending := by
  unfold dropItem; split <;> simp

@[simp] theorem abandonItem_timebase (s : State) : (abandonItem s).timebase = s.timebase := by
  unfold abandonItem; split <;> simp

@[simp] theorem abandonItem_pairs (s : State) : (abandonItem s).pairs = s.pairs := by
  unfold abandonItem; split <;> simp

@[simp] theorem abandonItem_records (s : State) : (abandonItem s).records = s.records := by
  unfold abandonItem; split <;> simp

@[simp] theorem abandonItem_sections (s : State) : (abandonItem s).sections = s.sections := by
  unfold abandonItem; split <;> simp

@[simp] theorem abandonItem_jobs (s : State) : (abandonItem s).jobs = s.jobs := by
  unfold abandonItem; split <;> simp

@[simp] theorem abandonItem_jobCounter (s : State) : (abandonItem s).jobCounter = s.jobCounter := by
  unfold abandonItem; split <;> simp

@[simp] theorem abandonItem_queues (s : State) : (abandonItem s).queues = s.queues := by
  unfold abandonItem; split <;> simp

@[simp] theorem abandonItem_trigger (s : State) : (abandonItem s).trigger = s.trigger := by
  unfold abandonItem; split <;> simp

@[simp] theorem abandonItem_analysisQueue (s : State) : (abandonItem s).analysisQueue = s.analysisQueue := by
  unfold abandonItem; split <;> simp

@[simp] theorem abandonItem_limits (s : State) : (abandonItem s).limits = s.limits := by
  unfold abandonItem; split <;> simp

@[simp] theorem abandonItem_results (s : State) : (abandonItem s).results = s.results := by
  unfold abandonItem; split <;> simp

@[simp] theorem abandonItem_notices (s : State) : (abandonItem s).notices = s.notices := by
  unfold abandonItem; split <;> simp

@[simp] theorem abandonItem_link (s : State) : (abandonItem s).link = s.link := by
  unfold abandonItem; split <;> simp

@[simp] theorem abandonItem_freeIndex (s : State) : (abandonItem s).freeIndex = s.freeIndex := by
  unfold abandonItem; split <;> simp

@[simp] theorem abandonItem_pending (s : State) : (abandonItem s).pending = s.pending := by
  unfold abandonItem; split <;> simp

@[simp] theorem openGate_timebase (c : ChannelId) (s : State) : (openGate c s).timebase = s.timebase := by
  unfold openGate; dsimp only; split <;> rfl

@[simp] theorem openGate_pairs (c : ChannelId) (s : State) : (openGate c s).pairs = s.pairs := by
  unfold openGate; dsimp only; split <;> rfl

@[simp] theorem openGate_records (c : ChannelId) (s : State) : (openGate c s).records = s.records := by
  unfold openGate; dsimp only; split <;> rfl

@[simp] theorem openGate_sections (c : ChannelId) (s : State) : (openGate c s).sections = s.sections := by
  unfold openGate; dsimp only; split <;> rfl

@[simp] theorem openGate_jobs (c : ChannelId) (s : State) : (openGate c s).jobs = s.jobs := by
  unfold openGate; dsimp only; split <;> rfl

@[simp] theorem openGate_jobCounter (c : ChannelId) (s : State) : (openGate c s).jobCounter = s.jobCounter := by
  unfold openGate; dsimp only; split <;> rfl

@[simp] theorem openGate_queues (c : ChannelId) (s : State) : (openGate c s).queues = s.queues := by
  unfold openGate; dsimp only; split <;> rfl

@[simp] theorem openGate_trigger (c : ChannelId) (s : State) : (openGate c s).trigger = s.trigger := by
  unfold openGate; dsimp only; split <;> rfl

@[simp] theorem openGate_analysisQueue (c : ChannelId) (s : State) : (openGate c s).analysisQueue = s.analysisQueue := by
  unfold openGate; dsimp only; split <;> rfl

@[simp] theorem openGate_engine (c : ChannelId) (s : State) : (openGate c s).engine = s.engine := by
  unfold openGate; dsimp only; split <;> rfl

@[simp] theorem openGate_limits (c : ChannelId) (s : State) : (openGate c s).limits = s.limits := by
  unfold openGate; dsimp only; split <;> rfl

@[simp] theorem openGate_results (c : ChannelId) (s : State) : (openGate c s).results = s.results := by
  unfold openGate; dsimp only; split <;> rfl

@[simp] theorem openGate_notices (c : ChannelId) (s : State) : (openGate c s).notices = s.notices := by
  unfold openGate; dsimp only; split <;> rfl

@[simp] theorem openGate_link (c : ChannelId) (s : State) : (openGate c s).link = s.link := by
  unfold openGate; dsimp only; split <;> rfl

@[simp] theorem openGate_freeIndex (c : ChannelId) (s : State) : (openGate c s).freeIndex = s.freeIndex := by
  unfold openGate; dsimp only; split <;> rfl

@[simp] theorem openGate_pending (c : ChannelId) (s : State) : (openGate c s).pending = s.pending := by
  unfold openGate; dsimp only; split <;> rfl

@[simp] theorem fillBank_timebase (c : ChannelId) (ctx : CaptureContext) (s : State) : (fillBank c ctx s).timebase = s.timebase := by
  rfl

@[simp] theorem fillBank_pairs (c : ChannelId) (ctx : CaptureContext) (s : State) : (fillBank c ctx s).pairs = s.pairs := by
  rfl

@[simp] theorem fillBank_records (c : ChannelId) (ctx : CaptureContext) (s : State) : (fillBank c ctx s).records = s.records := by
  rfl

@[simp] theorem fillBank_sections (c : ChannelId) (ctx : CaptureContext) (s : State) : (fillBank c ctx s).sections = s.sections := by
  rfl

@[simp] theorem fillBank_jobs (c : ChannelId) (ctx : CaptureContext) (s : State) : (fillBank c ctx s).jobs = s.jobs := by
  rfl

@[simp] theorem fillBank_jobCounter (c : ChannelId) (ctx : CaptureContext) (s : State) : (fillBank c ctx s).jobCounter = s.jobCounter := by
  rfl

@[simp] theorem fillBank_queues (c : ChannelId) (ctx : CaptureContext) (s : State) : (fillBank c ctx s).queues = s.queues := by
  rfl

@[simp] theorem fillBank_trigger (c : ChannelId) (ctx : CaptureContext) (s : State) : (fillBank c ctx s).trigger = s.trigger := by
  rfl

@[simp] theorem fillBank_analysisQueue (c : ChannelId) (ctx : CaptureContext) (s : State) : (fillBank c ctx s).analysisQueue = s.analysisQueue := by
  rfl

@[simp] theorem fillBank_engine (c : ChannelId) (ctx : CaptureContext) (s : State) : (fillBank c ctx s).engine = s.engine := by
  rfl

@[simp] theorem fillBank_limits (c : ChannelId) (ctx : CaptureContext) (s : State) : (fillBank c ctx s).limits = s.limits := by
  rfl

@[simp] theorem fillBank_results (c : ChannelId) (ctx : CaptureContext) (s : State) : (fillBank c ctx s).results = s.results := by
  rfl

@[simp] theorem fillBank_notices (c : ChannelId) (ctx : CaptureContext) (s : State) : (fillBank c ctx s).notices = s.notices := by
  rfl

@[simp] theorem fillBank_link (c : ChannelId) (ctx : CaptureContext) (s : State) : (fillBank c ctx s).link = s.link := by
  rfl

@[simp] theorem fillBank_freeIndex (c : ChannelId) (ctx : CaptureContext) (s : State) : (fillBank c ctx s).freeIndex = s.freeIndex := by
  rfl

@[simp] theorem fillBank_pending (c : ChannelId) (ctx : CaptureContext) (s : State) : (fillBank c ctx s).pending = s.pending := by
  rfl

end Sys2Proof.Machine
end

