-- ==== Sys2Proof/Laws/Link.lean ====
section
/-! SUPPORT. What serving a frame can do, and what a request that finds the server ready gives. -/

namespace Sys2Proof.Machine

/-- A request whose payload reads back passes the link checks (R177). -/
theorem linkChecks_requestFrame {tag : Byte} {r : Request}
    (h : readRequest (requestKind r) (requestPayload r) = some r) : linkChecks (requestFrame tag r) = .ok r := by
  have hk : isRequestKind (requestKind r) = true := by cases r <;> rfl
  unfold linkChecks requestFrame
  rw [checkHolds_makeFrame]
  simp [makeFrame, hk, h]

/-- A frame that completes while the server is ready is served at once (R175, R176). -/
theorem offerFrame_ready {f : Frame} {s : State} (h : Ready s) : offerFrame f s = serveFrame f s := by
  obtain ⟨hs, hh, ht⟩ := h
  cases s with
  | mk tb ch pr rc sc jb jc qu tr aq en lm rs nt lk fi pd =>
    cases lk with
    | mk rcv hold faults server tx nt' det low cause =>
      simp only at hs hh ht
      subst hs hh
      simp [offerFrame, serverTakes, setLink, linkPlaces, ht]

/-- What a request that finds the server ready does to the part, given what its owner answers (R176). -/
theorem receiveFrame_answers {tag : Byte} {r : Request} {s t : State} {payload : List Byte} (h : Ready s)
    (hread : readRequest (requestKind r) (requestPayload r) = some r) (hlen : (requestPayload r).length ≤ 1024)
    (hreset : r ≠ .reset) (hserve : serveRequest r (setReceiver .hunt s) = (payload, setReceiver .hunt t)) :
    receiveFrame (requestFrame tag r) s = answered (requestKind r + 128) tag payload t := by
  have hw : (requestFrame tag r).wellFormed = true := by
    simp [Frame.wellFormed, requestFrame, makeFrame, hlen]
  unfold receiveFrame
  rw [if_pos hw, offerFrame_ready (by simpa [Ready, setReceiver] using h)]
  unfold serveFrame
  rw [linkChecks_requestFrame hread]
  simp only [hserve]
  have : ∀ reply, serverAfter r reply = .replying reply := by
    intro reply; cases r <;> first | rfl | exact absurd rfl hreset
  rw [this]
  rfl

end Sys2Proof.Machine
end

