-- ==== Sys2Proof/Laws/Commute.lean ====
section
/-! SUPPORT. The operations of the other blocks neither read nor write the link interface: each gives the same whether the
link is replaced before it or after it. -/

namespace Sys2Proof.Machine

/-- An operation neither reads nor writes the link interface. -/
def IgnoresLink (f : State → State) : Prop :=
  ∀ l s, f (setLink l s) = setLink l (f s)

theorem IgnoresLink.comp {f g : State → State} (hf : IgnoresLink f) (hg : IgnoresLink g) : IgnoresLink fun s => f (g s) :=
  fun l s => (congrArg f (hg l s)).trans (hf l (g s))

theorem setReceiver_eq (r : Receiver) (s : State) : setReceiver r s = setLink { s.link with receiver := r } s := rfl

/-- An operation that ignores the link and leaves it alone gives the same before and after the receiver is set. -/
theorem IgnoresLink.setReceiver {f : State → State} (hf : IgnoresLink f) (hl : ∀ s, (f s).link = s.link) (r : Receiver)
    (s : State) : f (setReceiver r s) = setReceiver r (f s) := by
  rw [setReceiver_eq, hf, setReceiver_eq, hl]

theorem setQueue_ignoresLink (g : Group) (q : List Entry) : IgnoresLink (setQueue g q) := fun _ _ => rfl

theorem setJob_ignoresLink (site : Site) (j : Option Job) : IgnoresLink (setJob site j) := fun _ _ => rfl

theorem setChannel_ignoresLink (c : ChannelId) (x : Channel) : IgnoresLink (setChannel c x) := fun _ _ => rfl

theorem setPair_ignoresLink (g : Group) (x : PairUnit) : IgnoresLink (setPair g x) := fun _ _ => rfl

theorem raise_ignoresLink (flag : NoticeFlag) : IgnoresLink (raise flag) := fun _ _ => rfl

theorem followIdle_ignoresLink : IgnoresLink followIdle := by
  intro l s
  have h : idleCondition (setLink l s) = idleCondition s := rfl
  unfold followIdle
  simp only [h, show (setLink l s).notices = s.notices from rfl]
  split <;> rfl

theorem takeDispatch_ignoresLink (j : Job) (c : ChannelId) : IgnoresLink fun s => takeDispatch j s c := fun _ _ => rfl

theorem dispatchJob_ignoresLink (g : Group) (j : Job) (cs : List ChannelId) (rest : List Entry) :
    IgnoresLink (dispatchJob g j cs rest) := by
  have fold : ∀ (cs : List ChannelId) l s, cs.foldl (takeDispatch j) (setLink l s) = setLink l (cs.foldl (takeDispatch j) s) := by
    intro cs l
    induction cs with
    | nil => intro s; rfl
    | cons c cs ih => intro s; rw [List.foldl_cons, List.foldl_cons, ← ih]; rfl
  intro l s
  unfold dispatchJob
  simp only [setQueue_ignoresLink g rest l s, setJob_ignoresLink j.site _ l, fold]
  split <;> rfl

theorem examineHead_ignoresLink (g : Group) (l : Link) (s : State) :
    examineHead g (setLink l s) = (examineHead g s).map (setLink l) := by
  unfold examineHead
  have h1 : queueOf (setLink l s) g = queueOf s g := rfl
  rw [h1]
  split
  · rfl
  · have h2 : ∀ c, calibrationCanRun (setLink l s) g c = calibrationCanRun s g c := fun _ => rfl
    rw [h2]
    split <;> rfl
  · have h2 : ∀ site, jobAt (setLink l s) site = jobAt s site := fun _ => rfl
    rw [h2]
    split
    · rfl
    · next j _ =>
      have h3 : channelsFor (setLink l s) g j = channelsFor s g j := rfl
      rw [h3]
      split
      · rw [Option.map_map]
        congr 1
        funext cs
        exact dispatchJob_ignoresLink ..
      · rfl

theorem examine_ignoresLink (g : Group) : IgnoresLink (examine g) := by
  have times : ∀ n l s, examineTimes g n (setLink l s) = setLink l (examineTimes g n s) := by
    intro n l
    induction n with
    | zero => intro s; rfl
    | succ n ih =>
      intro s
      simp only [examineTimes, examineHead_ignoresLink]
      rcases examineHead g s with _ | t
      · rfl
      · exact ih t
  intro l s
  exact times _ l s

theorem examineBoth_ignoresLink : IgnoresLink examineBoth :=
  (examine_ignoresLink .b).comp (examine_ignoresLink .a)

theorem post_ignoresLink (r : ResultRecord) : IgnoresLink (post r) := by
  intro l s
  unfold post
  simp only [show (setLink l s).results = s.results from rfl, show slotAt (setLink l s) r.site = slotAt s r.site from rfl]
  split <;> rfl

theorem lowerInUse_ignoresLink (j : Job) : IgnoresLink (lowerInUse j) := by
  intro l s
  unfold lowerInUse
  split <;> rfl

theorem finishJob_ignoresLink (j : Job) (w : Working) : IgnoresLink (finishJob j w) := by
  intro l s
  unfold finishJob
  rw [show formRecord (setLink l s) j w = formRecord s j w from rfl, post_ignoresLink, lowerInUse_ignoresLink]
  rfl

theorem endJob_ignoresLink (id : Nat) (status : Ending) : IgnoresLink (endJob id status) := by
  intro l s
  unfold endJob
  rw [show jobWithId (setLink l s) id = jobWithId s id from rfl]
  split
  · rfl
  · exact finishJob_ignoresLink ..

theorem releaseChannel_ignoresLink (c : ChannelId) : IgnoresLink (releaseChannel c) := by
  intro l s
  unfold releaseChannel
  rw [show channelOfState (setLink l s) c = channelOfState s c from rfl]
  dsimp only
  split <;> rfl

theorem stopCapture_ignoresLink (c : ChannelId) (mode : Mode) : IgnoresLink (stopCapture c mode) := by
  intro l s
  unfold stopCapture
  split
  · exact releaseChannel_ignoresLink ..
  · dsimp only
    rw [releaseChannel_ignoresLink, releaseChannel_ignoresLink]
    rfl

theorem freeItemBanks_ignoresLink (item : Item) : IgnoresLink (freeItemBanks item) := by
  intro l s
  unfold freeItemBanks
  dsimp only
  split <;> rfl

theorem setJobState_ignoresLink (id : Nat) (state : JobState) : IgnoresLink (setJobState id state) := by
  intro l s
  unfold setJobState updateJob
  rw [show jobWithId (setLink l s) id = jobWithId s id from rfl]
  split <;> rfl

theorem takeItem_ignoresLink : IgnoresLink takeItem := by
  intro l s
  unfold takeItem
  rw [show (setLink l s).engine = s.engine from rfl, show (setLink l s).analysisQueue = s.analysisQueue from rfl]
  split
  · exact setJobState_ignoresLink _ _ l { s with analysisQueue := _, engine := _ }
  · rfl

end Sys2Proof.Machine
end

