-- ==== Sys2Proof/Laws/Exact.lean ====
section
/-! SUPPORT. Exact real values: what surds and their sign stand for, the enclosures of π and their limit, and what it means
that a spot level reaches a boundary (R115, R130, log 15). -/

namespace Sys2Proof.Machine

theorem cosineOf_succ (m : Nat) : cosineOf (m + 1) = Real.sqrt (2 + cosineOf m) := rfl

theorem cosineOf_nonneg : ∀ m, 0 ≤ cosineOf m
  | 0 => le_refl _
  | _ + 1 => Real.sqrt_nonneg _

theorem cosineOf_succ_sq (m : Nat) : cosineOf (m + 1) ^ 2 = 2 + cosineOf m := by
  rw [cosineOf_succ, Real.sq_sqrt (by linarith [cosineOf_nonneg m])]

theorem cosineOf_succ_pos (m : Nat) : 0 < cosineOf (m + 1) := by
  rw [cosineOf_succ]
  exact Real.sqrt_pos.2 (by linarith [cosineOf_nonneg m])

theorem surdValue_ofInt : ∀ (m : Nat) (z : Int), surdValue m (surdOfInt m z) = z
  | 0, _ => rfl
  | m + 1, z => by simp [surdOfInt, surdValue, surdValue_ofInt m]

theorem surdValue_cos : ∀ m, surdValue m (surdCos m) = cosineOf m
  | 0 => Int.cast_zero
  | m + 1 => by simp [surdCos, surdValue, surdValue_ofInt]

theorem surdValue_add : ∀ (m : Nat) (x y : Surd m), surdValue m (surdAdd m x y) = surdValue m x + surdValue m y
  | 0, x, y => Int.cast_add (R := ℝ) x y
  | m + 1, (a, b), (c, d) => by simp only [surdAdd, surdValue, surdValue_add m]; ring

theorem surdValue_neg : ∀ (m : Nat) (x : Surd m), surdValue m (surdNeg m x) = -surdValue m x
  | 0, x => Int.cast_neg (R := ℝ) x
  | m + 1, (a, b) => by simp only [surdNeg, surdValue, surdValue_neg m]; ring

theorem surdValue_mul : ∀ (m : Nat) (x y : Surd m), surdValue m (surdMul m x y) = surdValue m x * surdValue m y
  | 0, x, y => Int.cast_mul (α := ℝ) x y
  | m + 1, (a, b), (c, d) => by
    simp only [surdMul, surdValue, surdValue_add, surdValue_mul m, surdValue_ofInt, surdValue_cos]
    push_cast
    linear_combination surdValue m b * surdValue m d * -cosineOf_succ_sq m

theorem surdValue_pow (m : Nat) (x : Surd m) : ∀ n, surdValue m (surdPow m x n) = surdValue m x ^ n
  | 0 => by simp [surdPow, surdValue_ofInt]
  | n + 1 => by rw [surdPow, surdValue_mul, surdValue_pow m x n, pow_succ]

theorem sign_intCast (z : Int) : Int.sign z = (SignType.sign (z : ℝ) : ℤ) := by
  rcases lt_trichotomy z 0 with h | rfl | h
  · rw [Int.sign_eq_neg_one_of_neg h, sign_neg (by exact_mod_cast h)]; rfl
  · simp
  · rw [Int.sign_eq_one_of_pos h, sign_pos (by exact_mod_cast h)]; rfl

/-- The sign of a surd is the sign of its value. -/
theorem surdSign_eq : ∀ (m : Nat) (x : Surd m), surdSign m x = (SignType.sign (surdValue m x) : ℤ)
  | 0, x => sign_intCast x
  | m + 1, (a, b) => by
    have hc := cosineOf_succ_pos m
    have hc2 := cosineOf_succ_sq m
    have hd : surdValue m (surdAdd m (surdMul m a a) (surdNeg m (surdMul m (surdMul m b b)
        (surdAdd m (surdOfInt m 2) (surdCos m))))) =
        (surdValue m a + surdValue m b * cosineOf (m + 1)) * (surdValue m a - surdValue m b * cosineOf (m + 1)) := by
      simp only [surdValue_add, surdValue_mul, surdValue_neg, surdValue_ofInt, surdValue_cos]
      push_cast
      linear_combination surdValue m b ^ 2 * hc2
    simp only [surdSign, surdSign_eq m, hd, surdValue, sign_mul]
    generalize surdValue m a = u at *
    generalize surdValue m b = v at *
    generalize cosineOf (m + 1) = c at *
    rcases lt_trichotomy v 0 with hv | hv | hv
    · have hvc : v * c < 0 := mul_neg_of_neg_of_pos hv hc
      rcases lt_trichotomy u 0 with hu | hu | hu
      · simp [sign_neg hv, sign_neg hu, sign_neg (show u + v * c < 0 by linarith)]
      · simp [sign_neg hv, hu, sign_neg hvc]
      · simp [sign_neg hv, sign_pos hu, sign_pos (show 0 < u - v * c by linarith)]
    · simp [hv]
    · have hvc : 0 < v * c := mul_pos hv hc
      rcases lt_trichotomy u 0 with hu | hu | hu
      · simp [sign_pos hv, sign_neg hu, sign_neg (show u - v * c < 0 by linarith)]
      · simp [sign_pos hv, hu, sign_pos hvc]
      · simp [sign_pos hv, sign_pos hu, sign_pos (show 0 < u + v * c by linarith)]

theorem surdSign_nonneg (m : Nat) (x : Surd m) : 0 ≤ surdSign m x ↔ 0 ≤ surdValue m x := by
  rw [surdSign_eq]
  rcases lt_trichotomy (surdValue m x) 0 with h | h | h
  · simp [sign_neg h, h]
  · simp [h]
  · simp [sign_pos h, h.le]

theorem surdSign_nonpos (m : Nat) (x : Surd m) : surdSign m x ≤ 0 ↔ surdValue m x ≤ 0 := by
  rw [surdSign_eq]
  rcases lt_trichotomy (surdValue m x) 0 with h | h | h
  · simp [sign_neg h, h.le]
  · simp [h]
  · simp [sign_pos h, h]

/-! ### π -/

theorem arctanTerms_eq (x n : Nat) :
    (arctanTerms x n : ℝ) = ∑ i ∈ Finset.range n, (-1) ^ i * ((x : ℝ)⁻¹ ^ (2 * i + 1) / (2 * i + 1)) := by
  induction n with
  | zero => simp [arctanTerms]
  | succ n ih =>
    rw [arctanTerms, Finset.sum_range_succ, ← ih]
    push_cast
    rw [inv_pow, inv_eq_one_div, div_div, mul_one_div, mul_comm ((x : ℝ) ^ _)]

theorem arctanTerms_tendsto {x : Nat} (h : 2 ≤ x) :
    Filter.Tendsto (fun n => (arctanTerms x n : ℝ)) Filter.atTop (nhds (Real.arctan (x : ℝ)⁻¹)) := by
  have hx : (1 : ℝ) < x := by exact_mod_cast h
  have := (Real.hasSum_arctan (x := (x : ℝ)⁻¹) (by
    rw [norm_inv, Real.norm_natCast]; exact inv_lt_one_of_one_lt₀ hx)).tendsto_sum_nat
  refine this.congr fun n => ?_
  rw [arctanTerms_eq]
  refine Finset.sum_congr rfl fun i _ => ?_
  push_cast
  ring

theorem arctanTerms_antitone {x : Nat} (h : 2 ≤ x) :
    Antitone fun i : Nat => (x : ℝ)⁻¹ ^ (2 * i + 1) / (2 * i + 1) := by
  have hx : (1 : ℝ) < x := by exact_mod_cast h
  have h0 : (0 : ℝ) ≤ (x : ℝ)⁻¹ := by positivity
  have h1 : (x : ℝ)⁻¹ ≤ 1 := inv_le_one_of_one_le₀ hx.le
  intro i j hij
  have : (i : ℝ) ≤ j := by exact_mod_cast hij
  exact div_le_div₀ (by positivity) (pow_le_pow_of_le_one h0 h1 (by omega)) (by positivity) (by linarith)

theorem arctanTerms_even_le {x : Nat} (h : 2 ≤ x) (k : Nat) : (arctanTerms x (2 * k) : ℝ) ≤ Real.arctan (x : ℝ)⁻¹ := by
  rw [arctanTerms_eq]
  exact (arctanTerms_antitone h).alternating_series_le_tendsto
    ((arctanTerms_tendsto h).congr fun n => arctanTerms_eq x n) k

theorem le_arctanTerms_odd {x : Nat} (h : 2 ≤ x) (k : Nat) : Real.arctan (x : ℝ)⁻¹ ≤ arctanTerms x (2 * k + 1) := by
  rw [arctanTerms_eq]
  exact (arctanTerms_antitone h).tendsto_le_alternating_series
    ((arctanTerms_tendsto h).congr fun n => arctanTerms_eq x n) k

theorem pi_eq_arctans : Real.pi = 16 * Real.arctan ((5 : Nat) : ℝ)⁻¹ - 4 * Real.arctan ((239 : Nat) : ℝ)⁻¹ := by
  have := Real.four_mul_arctan_inv_5_sub_arctan_inv_239
  push_cast
  linarith

theorem piBelow_le (k : Nat) : (piBelow k : ℝ) ≤ Real.pi := by
  have h1 := arctanTerms_even_le (x := 5) (by decide) (k + 1)
  have h2 := le_arctanTerms_odd (x := 239) (by decide) k
  rw [piBelow, pi_eq_arctans]
  push_cast at *
  rw [show 2 * (k + 1) = 2 * k + 2 by ring] at h1
  linarith

theorem le_piAbove (k : Nat) : Real.pi ≤ piAbove k := by
  have h1 := le_arctanTerms_odd (x := 5) (by decide) k
  have h2 := arctanTerms_even_le (x := 239) (by decide) (k + 1)
  rw [piAbove, pi_eq_arctans]
  push_cast at *
  rw [show 2 * (k + 1) = 2 * k + 2 by ring] at h2
  linarith

theorem piAbove_tendsto : Filter.Tendsto (fun k => (piAbove k : ℝ)) Filter.atTop (nhds Real.pi) := by
  have go : ∀ a, Filter.Tendsto (fun k : Nat => 2 * k + a) Filter.atTop Filter.atTop := fun a =>
    Filter.tendsto_atTop_mono (fun k => show k ≤ 2 * k + a by omega) Filter.tendsto_id
  have h1 := (arctanTerms_tendsto (x := 5) (by decide)).comp (go 1)
  have h2 := (arctanTerms_tendsto (x := 239) (by decide)).comp (go 2)
  rw [pi_eq_arctans]
  refine ((h1.const_mul 16).sub (h2.const_mul 4)).congr fun k => ?_
  rw [piAbove]
  push_cast
  rfl

/-! ### First answers -/

theorem answerWithin_some {answer : Nat → Option Bool} {b : Bool} :
    ∀ {count k : Nat}, answerWithin answer count k = some b → ∃ i, answer i = some b
  | 0, _, h => nomatch h
  | count + 1, k, h => by
    unfold answerWithin at h
    split at h
    · next hk => exact ⟨k, hk.trans h⟩
    · exact answerWithin_some h

theorem answerFrom_some {answer : Nat → Option Bool} {b : Bool} {k : Nat} (h : answerFrom answer k = some b) :
    ∃ i, answer i = some b :=
  answerFrom.partial_correctness answer (fun _ r => ∃ i, answer i = some r)
    (fun _ ih k r h => by
      split at h
      · next hk => exact ⟨k, hk.trans h⟩
      · exact ih _ _ h) k b h

theorem answerFrom_isSome {answer : Nat → Option Bool} : ∀ {n k : Nat}, (answer (k + n)).isSome = true →
    (answerFrom answer k).isSome = true
  | 0, k, h => by
    obtain ⟨b, hb⟩ := Option.isSome_iff_exists.1 h
    rw [answerFrom, show answer k = some b from hb]; rfl
  | n + 1, k, h => by
    rw [answerFrom]
    split
    · rfl
    · exact answerFrom_isSome (n := n) (by rwa [show k + 1 + n = k + (n + 1) by omega])

theorem answerWithin_isSome {answer : Nat → Option Bool} : ∀ {count k i : Nat}, k ≤ i → i < k + count →
    (answer i).isSome = true → (answerWithin answer count k).isSome = true
  | 0, _, _, h1, h2, _ => by omega
  | count + 1, k, i, h1, h2, h => by
    unfold answerWithin
    split
    · rfl
    · next hk =>
      refine answerWithin_isSome (i := i) ?_ (by omega) h
      rcases Nat.lt_or_eq_of_le h1 with h1 | rfl
      · exact h1
      · rw [hk] at h; exact absurd h (by simp)

/-- Where every answer is right, and there is one when the truth is no, the first answer is the truth. -/
theorem firstAnswer_iff {answer : Nat → Option Bool} {P : Prop} (sound : ∀ k b, answer k = some b → (b = true ↔ P))
    (complete : ¬P → ∃ k, (answer k).isSome = true) : firstAnswer answer = true ↔ P := by
  unfold firstAnswer
  split
  · next b h => obtain ⟨i, hi⟩ := answerWithin_some h; exact sound i b hi
  · next h =>
    rcases hf : answerFrom answer 64 with _ | b
    · refine iff_of_true rfl (Classical.byContradiction fun hP => ?_)
      obtain ⟨k, hk⟩ := complete hP
      rcases Nat.lt_or_ge k 64 with h64 | h64
      · have := answerWithin_isSome (count := 64) (Nat.zero_le k) (by omega) hk
        rw [h] at this; exact absurd this (by simp)
      · have := answerFrom_isSome (answer := answer) (n := k - 64) (k := 64) (by rwa [Nat.add_sub_cancel' h64])
        rw [hf] at this; exact absurd this (by simp)
    · obtain ⟨i, hi⟩ := answerFrom_some hf; exact sound i b hi

/-! ### Spots -/

theorem toNat_num_div (q : ℚ) : (q.num.toNat : ℝ) / q.den = max (q : ℝ) 0 := by
  rcases le_total 0 q with h | h
  · rw [max_eq_left (by exact_mod_cast h)]
    have : (q.num.toNat : ℝ) = q.num := by
      exact_mod_cast congrArg (Int.cast (R := ℝ)) (Int.toNat_of_nonneg (Rat.num_nonneg.2 h))
    rw [this]
    exact_mod_cast congrArg (Rat.cast (K := ℝ)) (Rat.num_div_den q)
  · rw [max_eq_right (by exact_mod_cast h), Int.toNat_of_nonpos (Rat.num_nonpos.2 h)]
    simp

/-- The comparison of a spot with a boundary, for a rational number in the place of π. -/
theorem levelReaches_iff {m : Nat} {x : Surd m} {p : ℝ} {factor divisor : Nat} (hx : surdValue m x = p ^ 2000)
    (hd : 0 < divisor) (n : Int) (pi : ℚ) :
    levelReaches m x factor divisor n pi = true ↔
      (10 : ℝ) ^ (2 * n - 1) ≤ (p * factor * max (pi : ℝ) 0 ^ 2 / divisor) ^ 2000 := by
  have hden : (0 : ℝ) < pi.den := by exact_mod_cast pi.den_pos
  have hdiv : (0 : ℝ) < divisor := by exact_mod_cast hd
  unfold levelReaches
  simp only [decide_eq_true_eq, surdSign_nonneg, surdValue_add, surdValue_mul, surdValue_ofInt, hx]
  push_cast
  rw [← toNat_num_div]
  have h10 : (10 : ℝ) ^ (2 * n - 1) = 10 ^ (2 * n - 1).toNat / 10 ^ (1 - 2 * n).toNat := by
    rw [eq_div_iff (by positivity), ← zpow_natCast, ← zpow_natCast, ← zpow_add₀ (by norm_num)]
    congr 1
    omega
  have hr : (p * factor * ((pi.num.toNat : ℝ) / pi.den) ^ 2 / divisor) ^ 2000 =
      (factor * (pi.num.toNat : ℝ) ^ 2) ^ 2000 * p ^ 2000 / (divisor * (pi.den : ℝ) ^ 2) ^ 2000 := by
    rw [← mul_pow, ← div_pow]
    congr 1
    field_simp
  rw [h10, hr, div_le_div_iff₀ (by positivity) (by positivity)]
  constructor <;> intro h <;> linarith

/-- Whether a spot reaches a boundary is settled by the exact value (R115, R129, R130). -/
theorem spotReaches_iff {sp : Spectrum} {power : List Int} {factor divisor : Nat} (n : Int)
    (hp : 0 < surdValue (sp.exponent - 2) (surdOfSum (sp.exponent - 2) power)) (hf : 0 < factor) (hd : 0 < divisor) :
    spotReaches sp power factor divisor n = true ↔
      (n : ℝ) - 1 / 2 ≤ 1000 * Real.logb 10
        (surdValue (sp.exponent - 2) (surdOfSum (sp.exponent - 2) power) * factor * Real.pi ^ 2 / divisor) := by
  unfold spotReaches
  dsimp only
  have hx := surdValue_pow (sp.exponent - 2) (surdOfSum (sp.exponent - 2) power) 2000
  generalize surdPow (sp.exponent - 2) (surdOfSum (sp.exponent - 2) power) 2000 = x at hx ⊢
  generalize surdValue (sp.exponent - 2) (surdOfSum (sp.exponent - 2) power) = p at hp hx ⊢
  generalize sp.exponent - 2 = m at x hx ⊢
  have hfr : (0 : ℝ) < factor := by exact_mod_cast hf
  have hdr : (0 : ℝ) < divisor := by exact_mod_cast hd
  let level (q : ℝ) : ℝ := (p * factor * max q 0 ^ 2 / divisor) ^ 2000
  have mono : ∀ {a b : ℝ}, a ≤ b → level a ≤ level b := fun h => by
    simp only [level]
    gcongr
  have cont : Continuous level := by
    simp only [level]
    fun_prop
  have exact : (n : ℝ) - 1 / 2 ≤ 1000 * Real.logb 10 (p * factor * Real.pi ^ 2 / divisor) ↔
      (10 : ℝ) ^ (2 * n - 1) ≤ level Real.pi := by
    have hpos : 0 < p * factor * Real.pi ^ 2 / divisor := by positivity
    simp only [level, max_eq_left Real.pi_pos.le]
    rw [← Real.rpow_intCast 10 (2 * n - 1), ← Real.le_logb_iff_rpow_le (by norm_num) (by positivity), Real.logb_pow]
    push_cast
    constructor <;> intro h <;> linarith
  rw [exact]
  have below := fun k => levelReaches_iff (factor := factor) hx hd n (piBelow k)
  have above := fun k => levelReaches_iff (factor := factor) hx hd n (piAbove k)
  refine firstAnswer_iff (fun k b hb => ?_) fun hP => ?_
  · split at hb
    · next h =>
      obtain rfl := Option.some.inj hb
      exact iff_of_true rfl (((below k).1 h).trans (mono (piBelow_le k)))
    · split at hb
      · next h =>
        obtain rfl := Option.some.inj hb
        refine iff_of_false (by simp) fun hP => ?_
        rw [(above k).2 (hP.trans (mono (le_piAbove k)))] at h
        simp at h
      · simp at hb
  · have hlim := (cont.tendsto Real.pi).comp piAbove_tendsto
    obtain ⟨k, hk⟩ := (hlim.eventually (gt_mem_nhds (not_le.1 hP))).exists
    refine ⟨k, ?_⟩
    have : levelReaches m x factor divisor n (piAbove k) = false := by
      rw [← Bool.not_eq_true, above k, not_le]
      exact hk
    rw [this]
    split <;> rfl

end Sys2Proof.Machine
end

