-- ==== Sys2Proof/Laws/PerInstr.lean ====
section
/-! SUPPORT. One lemma per command: what a well-formed command is on the line. A request command stands for a frame whose kind
is a request kind and whose payload a frame can carry (R171, R177); any other command stands for none. -/

namespace Sys2Proof.Laws.Described

open Sys2Proof.Machine

/-- A well-formed request command brings a request of a request kind whose payload fits a frame. -/
def Statement (i : Instr) : Prop :=
  i.wellFormed = true → ∀ tag r, requestOf i = some (tag, r) →
    isRequestKind (requestKind r) = true ∧ (requestPayload r).length ≤ 1024

theorem of_none {i : Instr} (h : requestOf i = none) : Statement i :=
  fun _ _ _ hr => absurd (h.symm.trans hr) (by simp)

theorem of_request {i : Instr} {tag : Byte} {r : Request} (h : requestOf i = some (tag, r))
    (hk : isRequestKind (requestKind r) = true) (hl : (requestPayload r).length ≤ 1024) : Statement i := by
  intro _ tag' r' hr
  obtain ⟨-, rfl⟩ := Prod.mk.inj (Option.some.inj (h.symm.trans hr))
  exact ⟨hk, hl⟩

/-- The payload of a JOB_SUBMIT has the required length of R187. -/
theorem jobPayload_length (f : JobFields) : (jobPayload f).length = f.payloadLength := by
  simp only [jobPayload, JobFields.payloadLength, List.length_append, bandBytes_length, spotBytes_length, optional8_length]
  rcases f.exponent with _ | e <;> rcases f.limit with _ | l <;> simp [bytes32, bytes16]

/-- The payload of a LIMIT_WRITE is at most 86 bytes. -/
theorem limitPayload_length (f : LimitFields) : (limitPayload f).length ≤ 86 := by
  have h16 : ∀ x : Option (BitVec 16), (optional16 x).length ≤ 2 := fun x => by rw [optional16_length]; split <;> decide
  have h32 : ∀ x : Option (BitVec 32), (optional32 x).length ≤ 4 := fun x => by rw [optional32_length]; split <;> decide
  simp only [limitPayload, limitOptionalBytes, List.length_append, List.length_cons, List.length_nil, Vector.length_toList,
    bytes32]
  have := h32 f.lot; have := h32 f.offsetMin; have := h32 f.offsetMax; have := h32 f.tieRms; have := h32 f.tiePp
  have := h32 f.perRms; have := h32 f.c2cRms; have := h32 f.c2cPeak; have := h32 f.band0; have := h32 f.band1
  have := h32 f.band2; have := h32 f.band3; have := h16 f.spot0; have := h16 f.spot1; have := h16 f.spot2
  have := h16 f.spot3
  omega

theorem powerOn (receiveLine triggerLine : Level) (sample : Option Int) :
    Statement (.powerOn receiveLine triggerLine sample) :=
  of_none rfl

theorem gateEnd (edges : Nat) : Statement (.gateEnd edges) :=
  of_none rfl

theorem multiplierLockReport : Statement (.multiplierLockReport) :=
  of_none rfl

theorem multiplierUnlockReport : Statement (.multiplierUnlockReport) :=
  of_none rfl

theorem temperatureSample (quarterDegrees : Int) : Statement (.temperatureSample quarterDegrees) :=
  of_none rfl

theorem channelConfig (tag channel : Byte) (threshold : BitVec 16) (termination edge : Byte) :
    Statement (.channelConfig tag channel threshold termination edge) :=
  of_request rfl rfl (by simp [requestPayload, bytes16])

theorem calibrate (tag channel : Byte) : Statement (.calibrate tag channel) :=
  of_request rfl rfl (by simp [requestPayload])

theorem calRead (tag channel : Byte) : Statement (.calRead tag channel) :=
  of_request rfl rfl (by simp [requestPayload])

theorem calSettlingEnd (group : Group) : Statement (.calSettlingEnd group) :=
  of_none rfl

theorem codeDensityHit (group : Group) (code : Byte) : Statement (.codeDensityHit group code) :=
  of_none rfl

theorem histogramFull (group : Group) (code : Byte) : Statement (.histogramFull group code) :=
  of_none rfl

theorem codeDensityPassEnd (group : Group) : Statement (.codeDensityPassEnd group) :=
  of_none rfl

theorem floorGateOpen (group : Group) : Statement (.floorGateOpen group) :=
  of_none rfl

theorem floorTimestamp (group : Group) (ticks : Nat) (code : Byte) : Statement (.floorTimestamp group ticks code) :=
  of_none rfl

theorem floorEdgeTimeout (group : Group) : Statement (.floorEdgeTimeout group) :=
  of_none rfl

theorem floorRecordFull (group : Group) (ticks : Nat) (code : Byte) : Statement (.floorRecordFull group ticks code) :=
  of_none rfl

theorem floorComputationEnd (group : Group) : Statement (.floorComputationEnd group) :=
  of_none rfl

theorem settlingEnd (channel : ChannelId) : Statement (.settlingEnd channel) :=
  of_none rfl

theorem comparatorEdge (channel : ChannelId) (ticks : Nat) (code : Byte) :
    Statement (.comparatorEdge channel ticks code) :=
  of_none rfl

theorem prescaledEdge (channel : ChannelId) (ticks : Nat) (code : Byte) :
    Statement (.prescaledEdge channel ticks code) :=
  of_none rfl

theorem edgeTimeout (channel : ChannelId) : Statement (.edgeTimeout channel) :=
  of_none rfl

theorem recordComplete (channel : ChannelId) (ticks : Nat) (code : Byte) :
    Statement (.recordComplete channel ticks code) :=
  of_none rfl

theorem pairRecordFull (channel : ChannelId) (ticks : Nat) (code : Byte) :
    Statement (.pairRecordFull channel ticks code) :=
  of_none rfl

theorem timePassEnd : Statement (.timePassEnd) :=
  of_none rfl

theorem spectralPassEnd : Statement (.spectralPassEnd) :=
  of_none rfl

theorem enginePost : Statement (.enginePost) :=
  of_none rfl

theorem triggerLineChange (level : Level) : Statement (.triggerLineChange level) :=
  of_none rfl

theorem qualifiedEdge : Statement (.qualifiedEdge) :=
  of_none rfl

theorem triggerConfig (tag polarity : Byte) : Statement (.triggerConfig tag polarity) :=
  of_request rfl rfl (by simp [requestPayload])

theorem triggerArm (tag : Byte) : Statement (.triggerArm tag) :=
  of_request rfl rfl (by simp [requestPayload])

theorem triggerDisarm (tag : Byte) : Statement (.triggerDisarm tag) :=
  of_request rfl rfl (by simp [requestPayload])

theorem jobSubmit (tag : Byte) (job : JobFields) : Statement (.jobSubmit tag job) := by
  intro hw _ r hr
  obtain ⟨-, rfl⟩ := Prod.mk.inj (Option.some.inj hr)
  refine ⟨rfl, ?_⟩
  simp only [Instr.wellFormed, JobFields.wellFormed, Bool.and_eq_true, decide_eq_true_eq] at hw
  simpa only [requestPayload, jobPayload_length] using hw.2

theorem jobStatus (tag site : Byte) : Statement (.jobStatus tag site) :=
  of_request rfl rfl (by simp [requestPayload])

theorem jobCancel (tag site : Byte) : Statement (.jobCancel tag site) :=
  of_request rfl rfl (by simp [requestPayload])

theorem limitExtent (tag extent : Byte) : Statement (.limitExtent tag extent) :=
  of_request rfl rfl (by simp [requestPayload])

theorem limitWrite (tag : Byte) (entry : LimitFields) : Statement (.limitWrite tag entry) :=
  of_request rfl rfl ((limitPayload_length entry).trans (by decide))

theorem limitRead (tag index : Byte) : Statement (.limitRead tag index) :=
  of_request rfl rfl (by simp [requestPayload])

theorem limitDelete (tag index : Byte) : Statement (.limitDelete tag index) :=
  of_request rfl rfl (by simp [requestPayload])

theorem limitProbe (tag index spectral bands spots : Byte) (fNom : BitVec 32) :
    Statement (.limitProbe tag index spectral bands spots fNom) :=
  of_request rfl rfl (by simp [requestPayload, bytes32])

theorem lotOpen (tag : Byte) (lot : BitVec 32) : Statement (.lotOpen tag lot) :=
  of_request rfl rfl (by simp [requestPayload, bytes32])

theorem resultNext (tag : Byte) : Statement (.resultNext tag) :=
  of_request rfl rfl (by simp [requestPayload])

theorem resultRead (tag site : Byte) : Statement (.resultRead tag site) :=
  of_request rfl rfl (by simp [requestPayload])

theorem resultClear (tag site : Byte) : Statement (.resultClear tag site) :=
  of_request rfl rfl (by simp [requestPayload])

theorem noticeEnable (tag resultReady calDone refChange triggerTaken queueIdle : Byte) :
    Statement (.noticeEnable tag resultReady calDone refChange triggerTaken queueIdle) :=
  of_request rfl rfl (by simp [requestPayload])

theorem noticeClear (tag flags : Byte) : Statement (.noticeClear tag flags) :=
  of_request rfl rfl (by simp [requestPayload])

theorem identify (tag : Byte) : Statement (.identify tag) :=
  of_request rfl rfl (by simp [requestPayload])

theorem status (tag : Byte) : Statement (.status tag) :=
  of_request rfl rfl (by simp [requestPayload])

theorem reset (tag : Byte) : Statement (.reset tag) :=
  of_request rfl rfl (by simp [requestPayload])

theorem frameReceived (frame : Frame) : Statement (.frameReceived frame) :=
  of_none rfl

theorem interByteGapExpiry : Statement (.interByteGapExpiry) :=
  of_none rfl

theorem linkCheckFault (frame : Frame) : Statement (.linkCheckFault frame) :=
  of_none rfl

theorem transmitStart : Statement (.transmitStart) :=
  of_none rfl

theorem transmitFrameEnd : Statement (.transmitFrameEnd) :=
  of_none rfl

theorem linkBreak : Statement (.linkBreak) :=
  of_none rfl

theorem breakDetectorRearm : Statement (.breakDetectorRearm) :=
  of_none rfl

theorem byteReceived (byte : Byte) (stopBit : Level) : Statement (.byteReceived byte stopBit) :=
  of_none rfl

end Sys2Proof.Laws.Described
end

