-- ==== Sys2Proof/Laws/Steps.lean ====
section
/-! SUPPORT. Coarse time and resets: what each leaves of the part. -/

namespace Sys2Proof.Machine

/-- Time that passes to a tick ends there (R7). -/
theorem atTick_passTicks {t : Tick} {s : State} (h : s.timebase.refState = .locked) :
    passTicks (ticksUntil s t) s = atTick t s := by
  simp only [passTicks, counterRuns, h, decide_true, if_true, ticksUntil, BitVec.ofNat_toNat, BitVec.setWidth_eq, atTick]
  congr 2
  rw [BitVec.add_comm, BitVec.sub_add_cancel]

/-- So many ticks pass (R7). -/
theorem ticksLater_passTicks {n : Nat} {s : State} (h : s.timebase.refState = .locked) :
    passTicks n s = ticksLater n s := by
  simp [passTicks, counterRuns, h, ticksLater, atTick]

/-- A timed event at its tick: time passes to it (log 4). -/
theorem toDueTick_eq {c : ChannelId} {t : Tick} {s : State} (hd : dueTick s c = some t)
    (h : TicksPass s (ticksUntil s t)) : toDueTick c s = some (atTick t s) := by
  unfold toDueTick
  rw [hd]
  simp [counterRuns, h.1, h.2, atTick_passTicks h.1]

/-- What a reset other than POWER_ON leaves of every block (R11, R36, R54, R80, R87, R113, R153, R169, R186). -/
theorem resetBlocks_table (link : Link) (s : State) :
    let t := resetBlocks link s
    t.timebase = s.timebase ∧
    (∀ c, (channelOfState t c).config = (channelOfState s c).config ∧ (channelOfState t c).selector = .nothing ∧
      (channelOfState t c).ratio = 1 ∧ (channelOfState t c).count = 0 ∧ (channelOfState t c).state = .idle ∧
      (channelOfState t c).bank0 = { state := .free, record := [] } ∧
      (channelOfState t c).bank1 = { state := .free, record := [] } ∧ (channelOfState t c).context = none) ∧
    (∀ c, recordOf t c = if recordOf s c = .running then .uncal else recordOf s c) ∧
    (∀ g, pairOf t g = .idle ∧ sectionOf t g = .free ∧ queueOf t g = []) ∧ liveJobs t = [] ∧ t.jobCounter = 1 ∧
    t.trigger.state = .disarmed ∧ t.trigger.polarity = .rising ∧ t.trigger.qualification = none ∧
    t.trigger.sensed = false ∧ t.analysisQueue = [] ∧ t.engine = .idle ∧
    (∀ index : Fin 64, t.limits.entries[index] = none ∧ inUseOf t index = 0) ∧ t.limits.extent = 16 ∧
    t.limits.currentLot = 0 ∧ (∀ site, slotAt t site = .empty) ∧ t.results.completion = [] ∧
    t.notices = { flags := {}, enables := {}, due := false, idleHolds := true } ∧ t.link = link := by
  refine ⟨rfl, fun c => ?_, fun c => ?_, fun g => ?_, by simp only [liveJobs, resetBlocks]; rfl, rfl, rfl, rfl, rfl, rfl, rfl, rfl, fun i => ?_, rfl, rfl, fun site => ?_, rfl, rfl, rfl⟩
  · simp [channelOfState, resetBlocks, Channel.afterReset, Bank.empty]
  · simp only [recordOf, resetBlocks, Fin.getElem_fin, Vector.getElem_map]
    have : ∀ r : CalRecord, recordAfterReset r = if r = .running then .uncal else r := by
      intro r; cases r <;> simp [recordAfterReset]
    exact this _
  · cases g <;> exact ⟨rfl, rfl, rfl⟩
  · simp [resetBlocks, LimitTable.afterReset, inUseOf]
  · simp [slotAt, resetBlocks, Results.afterReset]

end Sys2Proof.Machine
end

