-- ==== Sys2Proof/Laws/View.lean ====
section
/-! SUPPORT. The work of the live jobs as a view of the part's state, and the changes of a view that keep each live job with
exactly the work its state says. -/

namespace Sys2Proof.Machine

/-- What the invariants of the live jobs' work speak of. -/
structure View where
  jobs : Site → Option Job
  queues : Group → List Entry
  state : ChannelId → ChannelState
  context : ChannelId → Option CaptureContext
  bank : ChannelId → Fin 2 → Bank
  pair : Group → PairUnit
  waiting : List Item
  engine : Option Item

/-- The view of a state. -/
def viewOf (s : State) : View :=
  { jobs := jobAt s, queues := queueOf s, state := fun c => (channelOfState s c).state
    context := fun c => (channelOfState s c).context, bank := fun c => bankOf (channelOfState s c), pair := pairOf s
    waiting := s.analysisQueue, engine := engineItem s.engine }

/-- The items in the part, the engine's first. -/
def View.items (v : View) : List Item :=
  v.engine.toList ++ v.waiting

/-- Each live job has exactly the work its state says (R18 to R28, R58 to R66, R73, R88 to R91). -/
structure View.Fits (v : View) : Prop where
  home : ∀ i j, v.jobs i = some j → j.site = i
  ids : ∀ i k j l, v.jobs i = some j → v.jobs k = some l → j.id = l.id → i = k
  working : ∀ c, (v.context c).isSome = true ↔ v.state c = .settling ∨ v.state c = .capturing
  choice : ∀ i j c, v.jobs i = some j → j.choice = some c → groupOfChannel c = groupOfSite i
  before : ∀ i j, v.jobs i = some j → j.state = .held ∨ j.state = .queued → j.channels = []
  single : ∀ i j, v.jobs i = some j → ¬(j.state = .held ∨ j.state = .queued) → j.mode = .single →
    ∃ c, groupOfChannel c = groupOfSite i ∧ j.channels = [c]
  paired : ∀ i j, v.jobs i = some j → ¬(j.state = .held ∨ j.state = .queued) → j.mode = .paired →
    j.channels = [lowChannel (groupOfSite i), highChannel (groupOfSite i)]
  distinct : ∀ g, (v.queues g).Nodup
  entryJob : ∀ g id i, Entry.job id i ∈ v.queues g →
    groupOfSite i = g ∧ ∃ j, v.jobs i = some j ∧ j.id = id ∧ (j.state = .held ∨ j.state = .queued)
  jobEntry : ∀ i j, v.jobs i = some j → j.state = .held ∨ j.state = .queued → Entry.job j.id i ∈ v.queues (groupOfSite i)
  held : ∀ c ctx, v.context c = some ctx → ∃ j, v.jobs ctx.site = some j ∧ j.id = ctx.job ∧ j.mode = ctx.mode ∧
    c ∈ j.channels ∧
      (j.state = .settling ∧ v.state c = .settling ∨ j.state = .capturing ∧ v.state c = .capturing)
  captured : ∀ i j c, v.jobs i = some j → j.state = .settling ∨ j.state = .capturing → c ∈ j.channels →
    ∃ ctx, v.context c = some ctx ∧ ctx.job = j.id ∧ ctx.site = i
  pairIdle : ∀ c ctx, v.pair (groupOfChannel c) = .idle → v.context c = some ctx → ctx.mode = .single
  pairSettling : ∀ c job low high, v.pair (groupOfChannel c) = .settling job low high →
    ¬(low = true ∧ high = true) ∧ v.state c = .settling ∧
      ∃ ctx, v.context c = some ctx ∧ ctx.mode = .paired ∧ ctx.job = job
  pairCapturing : ∀ c job low high, v.pair (groupOfChannel c) = .capturing job low high →
    ¬(low = true ∧ high = true) ∧ v.state c = .capturing ∧
      ∃ ctx, v.context c = some ctx ∧ ctx.mode = .paired ∧ ctx.job = job ∧
        (ctx.deadline = none ↔ (if c = lowChannel (groupOfChannel c) then low else high) = true)
  itemIds : (v.items.map (·.job)).Nodup
  waitJob : ∀ item ∈ v.waiting, ∃ i j, v.jobs i = some j ∧ j.id = item.job ∧ j.state = .analysisWait
  waitItem : ∀ i j, v.jobs i = some j → j.state = .analysisWait → ∃ item ∈ v.waiting, item.job = j.id
  engineJob : ∀ item, v.engine = some item → ∃ i j, v.jobs i = some j ∧ j.id = item.job ∧ j.state = .analysing
  engineItem : ∀ i j, v.jobs i = some j → j.state = .analysing → ∃ item, v.engine = some item ∧ item.job = j.id
  itemBanks : (v.items.flatMap banksHeld).Nodup
  contextBank : ∀ c ctx, v.context c = some ctx → (v.bank c ctx.bank).state = .filling
  fillingBank : ∀ c b, (v.bank c b).state = .filling → ∃ ctx, v.context c = some ctx ∧ ctx.bank = b
  itemBank : ∀ item ∈ v.items, ∀ c b, (c, b) ∈ banksHeld item → (v.bank c b).state = .full
  fullBank : ∀ c b, (v.bank c b).state = .full → ∃ item ∈ v.items, (c, b) ∈ banksHeld item
  free : ∀ c b, (v.bank c b).state = .free → (v.bank c b).record = []

/-- The live jobs are those kept at some site. -/
theorem mem_liveJobs {s : State} {j : Job} : j ∈ liveJobs s ↔ ∃ i, jobAt s i = some j := by
  simp only [liveJobs, List.mem_filterMap, id, Vector.mem_toList_iff, Vector.mem_iff_getElem, jobAt]
  constructor
  · rintro ⟨_, ⟨i, hi, h⟩, rfl⟩
    exact ⟨⟨i, hi⟩, h⟩
  · rintro ⟨i, h⟩
    exact ⟨_, ⟨i.val, i.isLt, h⟩, rfl⟩

/-- The live jobs, site by site. -/
theorem liveJobs_eq (s : State) : liveJobs s = (List.finRange 16).filterMap (jobAt s) := by
  have : s.jobs.toList = (List.finRange 16).map fun i => s.jobs[i] := by
    apply List.ext_getElem
    · simp
    · intro i h1 h2; simp
  rw [liveJobs, this, List.filterMap_map]; rfl

/-- The live ids are distinct exactly when no two sites hold jobs of one id. -/
theorem ids_iff (s : State) : ((liveJobs s).map (·.id)).Nodup ↔
    ∀ i k j l, jobAt s i = some j → jobAt s k = some l → j.id = l.id → i = k := by
  rw [liveJobs_eq, List.map_filterMap]
  have : ∀ l : List Site, l.Nodup → ((l.filterMap fun x => (jobAt s x).map (·.id)).Nodup ↔
      ∀ i ∈ l, ∀ k ∈ l, ∀ j m, jobAt s i = some j → jobAt s k = some m → j.id = m.id → i = k) := by
    intro l
    induction l with
    | nil => simp
    | cons a l ih =>
      intro hl
      have ih := ih hl.of_cons
      cases ha : jobAt s a with
      | none =>
        rw [List.filterMap_cons_none (by simp [ha]), ih]
        grind
      | some j =>
        rw [List.filterMap_cons_some (b := j.id) (by simp [ha]), List.nodup_cons, ih]
        simp only [List.mem_filterMap, Option.map_eq_some_iff]
        grind
  rw [this _ (List.nodup_finRange 16)]
  simp

/-- The view fits exactly when ids are distinct, contexts suit their channels' states, and `WorkFits` holds. -/
theorem fits_iff {s : State} : (JobsAtHome s ∧ ((liveJobs s).map (·.id)).Nodup) ∧
      (∀ c, (channelOfState s c).context.isSome = true ↔
        (channelOfState s c).state = .settling ∨ (channelOfState s c).state = .capturing) ∧ WorkFits s ↔
    (viewOf s).Fits := by
  constructor
  · rintro ⟨⟨h1, h2⟩, h3, hj, hq, hc, hp, hi, hb⟩
    rw [ids_iff] at h2
    simp only [ItemsExact, mem_liveJobs] at hi
    refine ⟨h1, h2, h3, fun i j c h => (hj i j h).1 c, fun i j h hs => ?_, fun i j h hs hm => ?_, fun i j h hs hm => ?_,
      fun g => (hq g).1, fun g id i => ((hq g).2 id i).1, fun i j h1 h2 => ((hq _).2 j.id i).2 ⟨rfl, j, h1, rfl, h2⟩,
      hc.1, hc.2, ?_, ?_, ?_, hi.1, ?_, ?_, ?_, ?_, hb.1, fun c ctx h => ((hb.2 c _).1).2 ⟨ctx, h, rfl⟩,
      fun c b => ((hb.2 c b).1).1, fun item h c b h' => ((hb.2 c b).2.1).2 ⟨item, h, h'⟩, fun c b => ((hb.2 c b).2.1).1,
      fun c b => (hb.2 c b).2.2⟩
    · have := (hj i j h).2; rwa [if_pos hs] at this
    · have := (hj i j h).2; rw [if_neg hs, hm] at this; exact this
    · have := (hj i j h).2; rw [if_neg hs, hm] at this; exact this
    · intro c ctx h; have := hp _ c rfl; simp only [viewOf] at h; rw [h] at this; exact this ctx
    · intro c job low high h; have := hp _ c rfl; simp only [viewOf] at h; rw [h] at this; exact this
    · intro c job low high h; have := hp _ c rfl; simp only [viewOf] at h; rw [h] at this; exact this
    · intro item h
      obtain ⟨j, ⟨i, hj⟩, h2⟩ := ((hi.2 item.job).1).1 ⟨item, h, rfl⟩
      exact ⟨i, j, hj, h2⟩
    · intro i j h1 h2
      exact ((hi.2 j.id).1).2 ⟨j, ⟨i, h1⟩, rfl, h2⟩
    · intro item h
      obtain ⟨j, ⟨i, hj⟩, h2⟩ := ((hi.2 item.job).2).1 ⟨item, h, rfl⟩
      exact ⟨i, j, hj, h2⟩
    · intro i j h1 h2
      exact ((hi.2 j.id).2).2 ⟨j, ⟨i, h1⟩, rfl, h2⟩
  · intro h
    refine ⟨⟨h.home, (ids_iff s).2 h.ids⟩, h.working, fun i j hj => ⟨fun c => h.choice i j c hj, ?_⟩,
      fun g => ⟨h.distinct g, fun id i => ⟨h.entryJob g id i, ?_⟩⟩,
      ⟨h.held, h.captured⟩, ?_, ⟨h.itemIds, fun id => ⟨⟨?_, ?_⟩, ⟨?_, ?_⟩⟩⟩, h.itemBanks,
      fun c b => ⟨⟨h.fillingBank c b, ?_⟩, ⟨h.fullBank c b, ?_⟩, h.free c b⟩⟩
    · split
      · next hs => exact h.before i j hj hs
      · next hs =>
        cases hm : j.mode with
        | single => exact h.single i j hj hs hm
        | paired => exact h.paired i j hj hs hm
    · rintro ⟨rfl, j, hj, rfl, hs⟩
      exact h.jobEntry i j hj hs
    · rintro g c rfl
      cases hp : pairOf s (groupOfChannel c) with
      | idle => exact fun ctx => h.pairIdle c ctx hp
      | settling job low high => exact h.pairSettling c job low high hp
      | capturing job low high => exact h.pairCapturing c job low high hp
    · rintro ⟨item, hm, rfl⟩
      obtain ⟨i, j, hj, h2⟩ := h.waitJob item hm
      exact ⟨j, mem_liveJobs.2 ⟨i, hj⟩, h2⟩
    · rintro ⟨j, hj, rfl, hs⟩
      obtain ⟨i, hi⟩ := mem_liveJobs.1 hj
      exact h.waitItem i j hi hs
    · rintro ⟨item, hm, rfl⟩
      obtain ⟨i, j, hj, h2⟩ := h.engineJob item hm
      exact ⟨j, mem_liveJobs.2 ⟨i, hj⟩, h2⟩
    · rintro ⟨j, hj, rfl, hs⟩
      obtain ⟨i, hi⟩ := mem_liveJobs.1 hj
      exact h.engineItem i j hi hs
    · rintro ⟨ctx, hc, rfl⟩
      exact h.contextBank c ctx hc
    · rintro ⟨item, hi, hb⟩
      exact h.itemBank item hi c b hb

/-- What the trigger does to a job's record (R75). -/
theorem releaseHeld_spec (j : Job) : (releaseHeld j).id = j.id ∧ (releaseHeld j).site = j.site ∧
    (releaseHeld j).mode = j.mode ∧ (releaseHeld j).choice = j.choice ∧ (releaseHeld j).channels = j.channels ∧
    ((releaseHeld j).state = .held ∨ (releaseHeld j).state = .queued ↔ j.state = .held ∨ j.state = .queued) ∧
    ((releaseHeld j).state = .settling ↔ j.state = .settling) ∧
    ((releaseHeld j).state = .capturing ↔ j.state = .capturing) ∧
    ((releaseHeld j).state = .analysisWait ↔ j.state = .analysisWait) ∧
    ((releaseHeld j).state = .analysing ↔ j.state = .analysing) := by
  unfold releaseHeld; split <;> simp_all

/-- The trigger releases the HELD jobs (R75). -/
theorem View.Fits.release {v : View} (h : v.Fits) :
    { v with jobs := fun i => (v.jobs i).map releaseHeld }.Fits := by
  have r := releaseHeld_spec
  refine { h with
    home := ?_, ids := ?_, choice := ?_, before := ?_, single := ?_, paired := ?_, entryJob := ?_, jobEntry := ?_,
    held := ?_, captured := ?_, waitJob := ?_, waitItem := ?_, engineJob := ?_, engineItem := ?_ }
  all_goals simp only [Option.map_eq_some_iff]
  · have := h.home; grind
  · have := h.ids; grind
  · have := h.choice; grind
  · have := h.before; grind
  · have := h.single; grind
  · have := h.paired; grind
  · have := h.entryJob; grind
  · have := h.jobEntry; grind
  · have := h.held; grind
  · have := h.captured; grind
  · have := h.waitJob; grind
  · have := h.waitItem; grind
  · have := h.engineJob; grind
  · have := h.engineItem; grind

/-- A job is accepted (R61, R66). -/
theorem View.Fits.accept {v : View} (h : v.Fits) (j : Job) (hn : v.jobs j.site = none)
    (fresh : ∀ i l, v.jobs i = some l → l.id ≠ j.id) (hs : j.state = .held ∨ j.state = .queued) (hc : j.channels = [])
    (hch : ∀ c, j.choice = some c → groupOfChannel c = groupOfSite j.site) :
    { v with
      jobs := fun i => if i = j.site then some j else v.jobs i
      queues := fun g => if g = groupOfSite j.site then v.queues g ++ [Entry.job j.id j.site] else v.queues g }.Fits := by
  refine { h with
    home := ?_, ids := ?_, choice := ?_, before := ?_, single := ?_, paired := ?_, distinct := ?_, entryJob := ?_,
    jobEntry := ?_, held := ?_, captured := ?_, waitJob := ?_, waitItem := ?_, engineJob := ?_, engineItem := ?_ }
  · have := h.home; grind
  · have := h.ids; grind
  · have := h.choice; grind
  · have := h.before; grind
  · have := h.single; grind
  · have := h.paired; grind
  · intro g
    dsimp only
    split
    · rw [List.nodup_append]
      refine ⟨h.distinct g, by simp, ?_⟩
      have := h.entryJob g; grind
    · exact h.distinct g
  · have := h.entryJob; grind
  · have := h.jobEntry; grind
  · have := h.held; grind
  · have := h.captured; grind
  · have := h.waitJob; grind
  · have := h.waitItem; grind
  · have := h.engineJob; grind
  · have := h.engineItem; grind

/-- A calibration entry joins a queue (R39). -/
theorem View.Fits.queueCalibration {v : View} (h : v.Fits) (g : Group) (c : ChannelId) (hn : Entry.calibration c ∉ v.queues g) :
    { v with queues := fun k => if k = g then v.queues k ++ [Entry.calibration c] else v.queues k }.Fits := by
  refine { h with distinct := ?_, entryJob := ?_, jobEntry := ?_ }
  · intro k
    dsimp only
    split
    · rw [List.nodup_append]
      refine ⟨h.distinct k, by simp, ?_⟩
      grind
    · exact h.distinct k
  · have := h.entryJob; grind
  · have := h.jobEntry; grind

/-- A calibration entry leaves the head of its queue (R40). -/
theorem View.Fits.takeCalibration {v : View} (h : v.Fits) (g : Group) (c : ChannelId) (rest : List Entry)
    (hq : v.queues g = .calibration c :: rest) :
    { v with queues := fun k => if k = g then rest else v.queues k }.Fits := by
  refine { h with distinct := ?_, entryJob := ?_, jobEntry := ?_ }
  · have := h.distinct; grind
  · have := h.entryJob; grind
  · have := h.jobEntry; grind

/-- A channel without capture changes between IDLE and CALIBRATING. -/
theorem View.Fits.channelState {v : View} (h : v.Fits) (c : ChannelId) (x : ChannelState) (hn : v.context c = none)
    (hx : x = .idle ∨ x = .calibrating) : { v with state := fun d => if d = c then x else v.state d }.Fits := by
  have hw := h.working
  refine { h with working := ?_, held := ?_, pairSettling := ?_, pairCapturing := ?_ }
  · grind
  · have := h.held; grind
  · have := h.pairSettling; grind
  · have := h.pairCapturing; grind

/-- A channel that is neither SETTLING nor CAPTURING has no context. -/
theorem View.Fits.no_context {v : View} (h : v.Fits) {c : ChannelId} (hs : ¬(v.state c = .settling ∨ v.state c = .capturing)) :
    v.context c = none := by
  cases hx : v.context c with
  | none => rfl
  | some x => exact absurd ((h.working c).1 (by rw [hx]; rfl)) hs

/-- A SINGLE job is dispatched (R20, R73). -/
theorem View.Fits.dispatchSingle {v : View} (h : v.Fits) {j : Job} {c : ChannelId} {ctx : CaptureContext} {rest : List Entry}
    (hq : v.queues (groupOfSite j.site) = Entry.job j.id j.site :: rest) (hj : v.jobs j.site = some j) (hs : j.state = .queued)
    (hm : j.mode = .single) (hc : groupOfChannel c = groupOfSite j.site) (hi : v.state c = .idle)
    (hb : (v.bank c ctx.bank).state = .free) (h1 : ctx.job = j.id) (h2 : ctx.site = j.site) (h3 : ctx.mode = .single) :
    { v with
      jobs := fun i => if i = j.site then some { j with channels := [c], state := .settling } else v.jobs i
      queues := fun g => if g = groupOfSite j.site then rest else v.queues g
      state := fun d => if d = c then .settling else v.state d
      context := fun d => if d = c then some ctx else v.context d
      bank := fun d b => if d = c ∧ b = ctx.bank then { state := .filling, record := [] } else v.bank d b }.Fits := by
  have hn : v.context c = none := h.no_context (by simp [hi])
  constructor
  · have := h.home; grind
  · have := h.ids; grind
  · have := h.working; grind
  · have := h.choice; grind
  · have := h.before; grind
  · have := h.single; grind
  · have := h.paired; grind
  · have := h.distinct; grind
  · have := h.entryJob; have := h.distinct (groupOfSite j.site); have := h.home; grind
  · have := h.jobEntry; have := h.ids; have := h.home; grind
  · have := h.held; grind
  · have := h.captured; grind
  · have := h.pairIdle; grind
  · have := h.pairSettling; grind
  · have := h.pairCapturing; grind
  · exact h.itemIds
  · have := h.waitJob; grind
  · have := h.waitItem; grind
  · have := h.engineJob; grind
  · have := h.engineItem; grind
  · exact h.itemBanks
  · have := h.contextBank; grind
  · have := h.fillingBank; grind
  · have := h.itemBank; simp only [View.items] at *; grind
  · have := h.fullBank; simp only [View.items] at *; grind
  · have := h.free; grind

/-- A channel is the lower or the higher of its group. -/
theorem group_two (c : ChannelId) : c = lowChannel (groupOfChannel c) ∨ c = highChannel (groupOfChannel c) := by
  revert c; decide

theorem groupOf_low (g : Group) : groupOfChannel (lowChannel g) = g := by cases g <;> rfl
theorem groupOf_high (g : Group) : groupOfChannel (highChannel g) = g := by cases g <;> rfl
theorem low_ne_high (g : Group) : lowChannel g ≠ highChannel g := by cases g <;> decide

/-- A PAIRED job is dispatched (R20, R23, R73). -/
theorem View.Fits.dispatchPaired {v : View} (h : v.Fits) {j : Job} {l k : CaptureContext} {rest : List Entry}
    (hq : v.queues (groupOfSite j.site) = Entry.job j.id j.site :: rest) (hj : v.jobs j.site = some j) (hs : j.state = .queued)
    (hm : j.mode = .paired) (hil : v.state (lowChannel (groupOfSite j.site)) = .idle)
    (hih : v.state (highChannel (groupOfSite j.site)) = .idle)
    (hbl : (v.bank (lowChannel (groupOfSite j.site)) l.bank).state = .free)
    (hbh : (v.bank (highChannel (groupOfSite j.site)) k.bank).state = .free)
    (l1 : l.job = j.id) (l2 : l.site = j.site) (l3 : l.mode = .paired)
    (k1 : k.job = j.id) (k2 : k.site = j.site) (k3 : k.mode = .paired) :
    { v with
      jobs := fun i => if i = j.site then
        some { j with channels := [lowChannel (groupOfSite j.site), highChannel (groupOfSite j.site)], state := .settling }
        else v.jobs i
      queues := fun g => if g = groupOfSite j.site then rest else v.queues g
      state := fun d => if groupOfChannel d = groupOfSite j.site then .settling else v.state d
      context := fun d => if d = highChannel (groupOfSite j.site) then some k
        else if d = lowChannel (groupOfSite j.site) then some l else v.context d
      bank := fun d b => if d = highChannel (groupOfSite j.site) ∧ b = k.bank then { state := .filling, record := [] }
        else if d = lowChannel (groupOfSite j.site) ∧ b = l.bank then { state := .filling, record := [] } else v.bank d b
      pair := fun g => if g = groupOfSite j.site then .settling j.id false false else v.pair g }.Fits := by
  have hnl : v.context (lowChannel (groupOfSite j.site)) = none := h.no_context (by simp [hil])
  have hnh : v.context (highChannel (groupOfSite j.site)) = none := h.no_context (by simp [hih])
  have two := group_two
  have gl := groupOf_low
  have gh := groupOf_high
  have lh := low_ne_high
  constructor
  · have := h.home; grind
  · have := h.ids; grind
  · have := h.working; grind
  · have := h.choice; grind
  · have := h.before; grind
  · have := h.single; grind
  · have := h.paired; grind
  · have := h.distinct; grind
  · have := h.entryJob; have := h.distinct (groupOfSite j.site); have := h.home; grind
  · have := h.jobEntry; have := h.ids; have := h.home; grind
  · have := h.held; grind
  · have := h.captured; grind
  · have := h.pairIdle; grind
  · have := h.pairSettling; grind
  · have := h.pairCapturing; grind
  · exact h.itemIds
  · have := h.waitJob; grind
  · have := h.waitItem; grind
  · have := h.engineJob; grind
  · have := h.engineItem; grind
  · exact h.itemBanks
  · have := h.contextBank; grind
  · have := h.fillingBank; grind
  · have := h.itemBank; simp only [View.items] at *; grind
  · have := h.fullBank; simp only [View.items] at *; grind
  · have := h.free; grind

/-- A SINGLE job's start gate opens (R22). -/
theorem View.Fits.openSingle {v : View} (h : v.Fits) {c : ChannelId} {ctx ctx' : CaptureContext}
    (hc : v.context c = some ctx) (hs : v.state c = .settling) (hm : ctx.mode = .single)
    (h1 : ctx'.job = ctx.job) (h2 : ctx'.site = ctx.site) (h3 : ctx'.mode = ctx.mode) (h4 : ctx'.bank = ctx.bank) :
    { v with
      jobs := fun i => (v.jobs i).map fun (j : Job) => if j.id = ctx.job then { j with state := .capturing } else j
      state := fun d => if d = c then .capturing else v.state d
      context := fun d => if d = c then some ctx' else v.context d }.Fits := by
  obtain ⟨j, hj, hid, hmode, hmem, hst⟩ := h.held c ctx hc
  have hids := h.ids
  have hsing := h.single ctx.site j hj
  constructor
  · have := h.home; simp only [Option.map_eq_some_iff]; grind
  · have := h.ids; simp only [Option.map_eq_some_iff]; grind
  · have := h.working; grind
  · have := h.choice; simp only [Option.map_eq_some_iff]; grind
  · have := h.before; simp only [Option.map_eq_some_iff]; grind
  · have := h.single; simp only [Option.map_eq_some_iff]; grind
  · have := h.paired; simp only [Option.map_eq_some_iff]; grind
  · have := h.distinct; grind
  · have := h.entryJob; simp only [Option.map_eq_some_iff]; grind
  · have := h.jobEntry; simp only [Option.map_eq_some_iff]; grind
  · have := h.held; simp only [Option.map_eq_some_iff]; grind
  · have := h.captured; simp only [Option.map_eq_some_iff]; grind
  · have := h.pairIdle; grind
  · have := h.pairSettling; grind
  · have := h.pairCapturing; grind
  · exact h.itemIds
  · have := h.waitJob; simp only [Option.map_eq_some_iff]; grind
  · have := h.waitItem; simp only [Option.map_eq_some_iff]; grind
  · have := h.engineJob; simp only [Option.map_eq_some_iff]; grind
  · have := h.engineItem; simp only [Option.map_eq_some_iff]; grind
  · exact h.itemBanks
  · have := h.contextBank; grind
  · have := h.fillingBank; grind
  · have := h.itemBank; simp only [View.items] at *; grind
  · have := h.fullBank; simp only [View.items] at *; grind
  · have := h.free; grind

/-- The common gate of a pair opens (R23). -/
theorem View.Fits.openPaired {v : View} (h : v.Fits) {g : Group} {l k l' k' : CaptureContext} {low high : Bool}
    (hp : v.pair g = .settling l.job low high)
    (hl : v.context (lowChannel g) = some l) (hk : v.context (highChannel g) = some k)
    (h1 : l'.job = l.job) (h2 : l'.site = l.site) (h3 : l'.mode = l.mode) (h4 : l'.bank = l.bank) (h5 : l'.deadline.isSome = true)
    (k1 : k'.job = k.job) (k2 : k'.site = k.site) (k3 : k'.mode = k.mode) (k4 : k'.bank = k.bank) (k5 : k'.deadline.isSome = true) :
    { v with
      jobs := fun i => (v.jobs i).map fun (j : Job) => if j.id = l.job then { j with state := .capturing } else j
      state := fun d => if groupOfChannel d = g then .capturing else v.state d
      context := fun d => if d = highChannel g then some k' else if d = lowChannel g then some l' else v.context d
      pair := fun e => if e = g then .capturing l.job false false else v.pair e }.Fits := by
  have two := group_two
  have gl := groupOf_low
  have gh := groupOf_high
  have lh := low_ne_high
  have hids := h.ids
  have hps := h.pairSettling
  have h6 : l'.deadline ≠ none := by intro h; simp [h] at h5
  have k6 : k'.deadline ≠ none := by intro h; simp [h] at k5
  obtain ⟨_, hsl, _, hl', hml, _⟩ := hps (lowChannel g) l.job low high (by rw [gl]; exact hp)
  obtain ⟨_, hsk, _, hk', hmk, hjk⟩ := hps (highChannel g) l.job low high (by rw [gh]; exact hp)
  obtain ⟨j, hj, hid, hmode, hmem, hst⟩ := h.held _ l hl
  obtain ⟨j2, hj2, hid2, hmode2, hmem2, hst2⟩ := h.held _ k hk
  have hpair := h.paired l.site j hj
  constructor
  · have := h.home; simp only [Option.map_eq_some_iff]; grind
  · have := h.ids; simp only [Option.map_eq_some_iff]; grind
  · have := h.working; grind
  · have := h.choice; simp only [Option.map_eq_some_iff]; grind
  · have := h.before; simp only [Option.map_eq_some_iff]; grind
  · have := h.single; simp only [Option.map_eq_some_iff]; grind
  · have := h.paired; simp only [Option.map_eq_some_iff]; grind
  · have := h.distinct; grind
  · have := h.entryJob; simp only [Option.map_eq_some_iff]; grind
  · have := h.jobEntry; simp only [Option.map_eq_some_iff]; grind
  · have := h.held; simp only [Option.map_eq_some_iff]; grind
  · have := h.captured; simp only [Option.map_eq_some_iff]; grind
  · have := h.pairIdle; grind
  · have := h.pairSettling; grind
  · have := h.pairCapturing; grind
  · exact h.itemIds
  · have := h.waitJob; simp only [Option.map_eq_some_iff]; grind
  · have := h.waitItem; simp only [Option.map_eq_some_iff]; grind
  · have := h.engineJob; simp only [Option.map_eq_some_iff]; grind
  · have := h.engineItem; simp only [Option.map_eq_some_iff]; grind
  · exact h.itemBanks
  · have := h.contextBank; grind
  · have := h.fillingBank; grind
  · have := h.itemBank; simp only [View.items] at *; grind
  · have := h.fullBank; simp only [View.items] at *; grind
  · have := h.free; grind

/-- One channel of a pair reports its settling end (R23). -/
theorem View.Fits.settledOne {v : View} (h : v.Fits) {g : Group} {job : Nat} {low high low' high' : Bool}
    (hp : v.pair g = .settling job low high) (hn : ¬(low' = true ∧ high' = true)) :
    { v with pair := fun e => if e = g then .settling job low' high' else v.pair e }.Fits := by
  refine { h with pairIdle := ?_, pairSettling := ?_, pairCapturing := ?_ }
  · have := h.pairIdle; grind
  · have := h.pairSettling; grind
  · have := h.pairCapturing; grind

/-- A capture keeps a timestamp (R24). -/
theorem View.Fits.moveContext {v : View} (h : v.Fits) {c : ChannelId} {ctx ctx' : CaptureContext} {r : List Timestamp}
    (hc : v.context c = some ctx)
    (h1 : ctx'.job = ctx.job) (h2 : ctx'.site = ctx.site) (h3 : ctx'.mode = ctx.mode) (h4 : ctx'.bank = ctx.bank)
    (h5 : ctx.mode = .paired → (ctx'.deadline = none ↔ ctx.deadline = none)) :
    { v with
      context := fun d => if d = c then some ctx' else v.context d
      bank := fun d b => if d = c ∧ b = ctx.bank then { state := .filling, record := r } else v.bank d b }.Fits := by
  have hb := h.contextBank c ctx hc
  constructor
  · have := h.home; grind
  · have := h.ids; grind
  · have := h.working; grind
  · have := h.choice; grind
  · have := h.before; grind
  · have := h.single; grind
  · have := h.paired; grind
  · have := h.distinct; grind
  · have := h.entryJob; grind
  · have := h.jobEntry; grind
  · have := h.held; grind
  · have := h.captured; grind
  · have := h.pairIdle; grind
  · have := h.pairSettling; grind
  · have := h.pairCapturing; grind
  · exact h.itemIds
  · have := h.waitJob; grind
  · have := h.waitItem; grind
  · have := h.engineJob; grind
  · have := h.engineItem; grind
  · exact h.itemBanks
  · have := h.contextBank; grind
  · have := h.fillingBank; grind
  · have := h.itemBank; simp only [View.items] at *; grind
  · have := h.fullBank; simp only [View.items] at *; grind
  · have := h.free; grind

/-- The first full record of a pair is reported (R28). -/
theorem View.Fits.fullOne {v : View} (h : v.Fits) {c : ChannelId} {ctx ctx' : CaptureContext} {r : List Timestamp}
    {job : Nat} {low high low' high' : Bool}
    (hp : v.pair (groupOfChannel c) = .capturing job low high)
    (hc : v.context c = some ctx)
    (h1 : ctx'.job = ctx.job) (h2 : ctx'.site = ctx.site) (h3 : ctx'.mode = ctx.mode) (h4 : ctx'.bank = ctx.bank)
    (h5 : ctx'.deadline = none) (hlow : low' = (low || decide (c = lowChannel (groupOfChannel c))))
    (hhigh : high' = (high || decide (c = highChannel (groupOfChannel c)))) (hn : ¬(low' = true ∧ high' = true)) :
    { v with
      context := fun d => if d = c then some ctx' else v.context d
      bank := fun d b => if d = c ∧ b = ctx.bank then { state := .filling, record := r } else v.bank d b
      pair := fun e => if e = groupOfChannel c then .capturing job low' high' else v.pair e }.Fits := by
  have hb := h.contextBank c ctx hc
  have two := group_two
  have gl := groupOf_low
  have gh := groupOf_high
  have lh := low_ne_high
  subst hlow hhigh
  constructor
  · have := h.home; grind
  · have := h.ids; grind
  · have := h.working; grind
  · have := h.choice; grind
  · have := h.before; grind
  · have := h.single; grind
  · have := h.paired; grind
  · have := h.distinct; grind
  · have := h.entryJob; grind
  · have := h.jobEntry; grind
  · have := h.held; grind
  · have := h.captured; grind
  · have := h.pairIdle; grind
  · have := h.pairSettling; grind
  · have := h.pairCapturing; grind
  · exact h.itemIds
  · have := h.waitJob; grind
  · have := h.waitItem; grind
  · have := h.engineJob; grind
  · have := h.engineItem; grind
  · exact h.itemBanks
  · have := h.contextBank; grind
  · have := h.fillingBank; grind
  · have := h.itemBank; simp only [View.items] at *; grind
  · have := h.fullBank; simp only [View.items] at *; grind
  · have := h.free; grind

/-- A SINGLE record is complete: its item joins the analysis queue (R27, R89). -/
theorem View.Fits.joinSingle {v : View} (h : v.Fits) {c : ChannelId} {ctx : CaptureContext} {item : Item} {r : List Timestamp}
    (hc : v.context c = some ctx) (hs : v.state c = .capturing) (hm : ctx.mode = .single)
    (h1 : item.job = ctx.job) (h2 : banksHeld item = [(c, ctx.bank)]) :
    { v with
      jobs := fun i => (v.jobs i).map fun (j : Job) => if j.id = item.job then { j with state := .analysisWait } else j
      state := fun d => if d = c then .idle else v.state d
      context := fun d => if d = c then none else v.context d
      bank := fun d b => if d = c ∧ b = ctx.bank then { state := .full, record := r } else v.bank d b
      waiting := v.waiting ++ [item] }.Fits := by
  obtain ⟨j, hj, hid, hmode, hmem, hst⟩ := h.held c ctx hc
  have hids := h.ids
  have hb := h.contextBank c ctx hc
  have hsing := h.single ctx.site j hj
  have hw := h.waitJob
  have he := h.engineJob
  have hib := h.itemBank
  constructor
  · have := h.home; simp only [Option.map_eq_some_iff]; grind
  · have := h.ids; simp only [Option.map_eq_some_iff]; grind
  · have := h.working; grind
  · have := h.choice; simp only [Option.map_eq_some_iff]; grind
  · have := h.before; simp only [Option.map_eq_some_iff]; grind
  · have := h.single; simp only [Option.map_eq_some_iff]; grind
  · have := h.paired; simp only [Option.map_eq_some_iff]; grind
  · have := h.distinct; grind
  · have := h.entryJob; simp only [Option.map_eq_some_iff]; grind
  · have := h.jobEntry; simp only [Option.map_eq_some_iff]; grind
  · have := h.held; simp only [Option.map_eq_some_iff]; grind
  · have := h.captured; simp only [Option.map_eq_some_iff]; grind
  · have := h.pairIdle; grind
  · have := h.pairSettling; grind
  · have := h.pairCapturing; grind
  · have hi := h.itemIds
    simp only [View.items, ← List.append_assoc, List.map_append, List.map_cons, List.map_nil] at hi ⊢
    rw [← List.map_append, List.nodup_append] at *
    refine ⟨by simpa using hi, by simp, ?_⟩
    simp only [List.mem_append, List.mem_map, Option.mem_toList, List.mem_singleton]
    grind
  · have := h.waitJob; simp only [Option.map_eq_some_iff]; grind
  · have := h.waitItem; simp only [Option.map_eq_some_iff]; grind
  · have := h.engineJob; simp only [Option.map_eq_some_iff]; grind
  · have := h.engineItem; simp only [Option.map_eq_some_iff]; grind
  · have hi := h.itemBanks
    simp only [View.items, ← List.append_assoc] at hi ⊢
    rw [List.flatMap_append, List.nodup_append]
    refine ⟨hi, by simp [h2], ?_⟩
    simp only [View.items] at hib
    simp only [List.mem_flatMap, List.flatMap_cons, List.flatMap_nil, h2]
    grind
  · have := h.contextBank; grind
  · have := h.fillingBank; grind
  · have := h.itemBank; simp only [View.items] at *; grind
  · have := h.fullBank; simp only [View.items] at *; grind
  · have := h.free; grind

set_option maxHeartbeats 1000000 in
/-- Both records of a pair are complete: their item joins the analysis queue (R28, R89). -/
theorem View.Fits.joinPair {v : View} (h : v.Fits) {g : Group} {job : Nat} {low high : Bool} {l k : CaptureContext}
    {item : Item} {r q : List Timestamp} (hp : v.pair g = .capturing job low high)
    (hl : v.context (lowChannel g) = some l) (hk : v.context (highChannel g) = some k)
    (h1 : item.job = l.job) (h2 : banksHeld item = [(lowChannel g, l.bank), (highChannel g, k.bank)]) :
    { v with
      jobs := fun i => (v.jobs i).map fun (j : Job) => if j.id = item.job then { j with state := .analysisWait } else j
      state := fun d => if groupOfChannel d = g then .idle else v.state d
      context := fun d => if groupOfChannel d = g then none else v.context d
      bank := fun d b => if d = highChannel g ∧ b = k.bank then { state := .full, record := q }
        else if d = lowChannel g ∧ b = l.bank then { state := .full, record := r } else v.bank d b
      pair := fun e => if e = g then .idle else v.pair e
      waiting := v.waiting ++ [item] }.Fits := by
  have two := group_two
  have gl := groupOf_low
  have gh := groupOf_high
  have lh := low_ne_high
  have hids := h.ids
  have hps := h.pairCapturing
  obtain ⟨_, hsl, _, hl', hml, hjl, _⟩ := hps (lowChannel g) job low high (by rw [gl]; exact hp)
  obtain ⟨_, hsk, _, hk', hmk, hjk, _⟩ := hps (highChannel g) job low high (by rw [gh]; exact hp)
  obtain ⟨j, hj, hid, hmode, hmem, hst⟩ := h.held _ l hl
  obtain ⟨j2, hj2, hid2, hmode2, hmem2, hst2⟩ := h.held _ k hk
  have hpair := h.paired l.site j hj
  have hbl := h.contextBank _ l hl
  have hbk := h.contextBank _ k hk
  have hw := h.waitJob
  have he := h.engineJob
  have hib := h.itemBank
  constructor
  · have := h.home; simp only [Option.map_eq_some_iff]; grind
  · have := h.ids; simp only [Option.map_eq_some_iff]; grind
  · have := h.working; grind
  · have := h.choice; simp only [Option.map_eq_some_iff]; grind
  · have := h.before; simp only [Option.map_eq_some_iff]; grind
  · have := h.single; simp only [Option.map_eq_some_iff]; grind
  · have := h.paired; simp only [Option.map_eq_some_iff]; grind
  · have := h.distinct; grind
  · have := h.entryJob; simp only [Option.map_eq_some_iff]; grind
  · have := h.jobEntry; simp only [Option.map_eq_some_iff]; grind
  · have := h.held; simp only [Option.map_eq_some_iff]; grind
  · have := h.captured; simp only [Option.map_eq_some_iff]; grind
  · have := h.pairIdle; grind
  · have := h.pairSettling; grind
  · have := h.pairCapturing; grind
  · have hi := h.itemIds
    simp only [View.items, ← List.append_assoc, List.map_append, List.map_cons, List.map_nil] at hi ⊢
    rw [← List.map_append, List.nodup_append] at *
    refine ⟨by simpa using hi, by simp, ?_⟩
    simp only [List.mem_append, List.mem_map, Option.mem_toList, List.mem_singleton]
    grind
  · have := h.waitJob; simp only [Option.map_eq_some_iff]; grind
  · have := h.waitItem; simp only [Option.map_eq_some_iff]; grind
  · have := h.engineJob; simp only [Option.map_eq_some_iff]; grind
  · have := h.engineItem; simp only [Option.map_eq_some_iff]; grind
  · have hi := h.itemBanks
    simp only [View.items, ← List.append_assoc] at hi ⊢
    rw [List.flatMap_append, List.nodup_append]
    refine ⟨hi, by simp [h2, lh g], ?_⟩
    simp only [View.items] at hib
    simp only [List.mem_flatMap, List.flatMap_cons, List.flatMap_nil, h2]
    grind
  · have := h.contextBank; grind
  · have := h.fillingBank; grind
  · have := h.itemBank; simp only [View.items] at *; grind
  · have := h.fullBank; simp only [View.items] at *; grind
  · have := h.free; grind

/-- The idle engine takes the head item (R91). -/
theorem View.Fits.takeItem {v : View} (h : v.Fits) {item : Item} {rest : List Item} (he : v.engine = none)
    (hw : v.waiting = item :: rest) :
    { v with
      jobs := fun i => (v.jobs i).map fun (j : Job) => if j.id = item.job then { j with state := .analysing } else j
      engine := some item
      waiting := rest }.Fits := by
  obtain ⟨i0, j, hj, hid, hst⟩ := h.waitJob item (by simp [hw])
  have hids := h.ids
  have hii := h.itemIds
  simp only [View.items, he, hw, Option.toList_none, List.nil_append, List.map_cons, List.nodup_cons, List.mem_map] at hii
  constructor
  · have := h.home; simp only [Option.map_eq_some_iff]; grind
  · have := h.ids; simp only [Option.map_eq_some_iff]; grind
  · have := h.working; grind
  · have := h.choice; simp only [Option.map_eq_some_iff]; grind
  · have := h.before; simp only [Option.map_eq_some_iff]; grind
  · have := h.single; simp only [Option.map_eq_some_iff]; grind
  · have := h.paired; simp only [Option.map_eq_some_iff]; grind
  · have := h.distinct; grind
  · have := h.entryJob; simp only [Option.map_eq_some_iff]; grind
  · have := h.jobEntry; simp only [Option.map_eq_some_iff]; grind
  · have := h.held; simp only [Option.map_eq_some_iff]; grind
  · have := h.captured; simp only [Option.map_eq_some_iff]; grind
  · have := h.pairIdle; grind
  · have := h.pairSettling; grind
  · have := h.pairCapturing; grind
  · have hi := h.itemIds; simpa [View.items, he, hw] using hi
  · have := h.waitJob; simp only [Option.map_eq_some_iff]; grind
  · have := h.waitItem; simp only [Option.map_eq_some_iff]; grind
  · have := h.engineJob; simp only [Option.map_eq_some_iff]; grind
  · have := h.engineItem; simp only [Option.map_eq_some_iff]; grind
  · have hi := h.itemBanks; simpa [View.items, he, hw] using hi
  · have := h.contextBank; grind
  · have := h.fillingBank; grind
  · have := h.itemBank; simp only [View.items] at *; grind
  · have := h.fullBank; simp only [View.items] at *; grind
  · have := h.free; grind

/-- A job that waits in its queue ends (R67, R78). -/
theorem View.Fits.endWaiting {v : View} (h : v.Fits) {j : Job} (hj : v.jobs j.site = some j)
    (hs : j.state = .held ∨ j.state = .queued) :
    { v with
      jobs := fun i => if i = j.site then none else v.jobs i
      queues := fun g => if g = groupOfSite j.site then
        (v.queues g).filter fun e => decide (e ≠ Entry.job j.id j.site) else v.queues g }.Fits := by
  have hids := h.ids
  constructor
  · have := h.home; grind
  · have := h.ids; grind
  · have := h.working; grind
  · have := h.choice; grind
  · have := h.before; grind
  · have := h.single; grind
  · have := h.paired; grind
  · have := h.distinct; intro g; dsimp only; split; exacts [(this g).filter _, this g]
  · have := h.entryJob; grind
  · have := h.jobEntry; grind
  · have := h.held; grind
  · have := h.captured; grind
  · have := h.pairIdle; grind
  · have := h.pairSettling; grind
  · have := h.pairCapturing; grind
  · exact h.itemIds
  · have := h.waitJob; grind
  · have := h.waitItem; grind
  · have := h.engineJob; grind
  · have := h.engineItem; grind
  · exact h.itemBanks
  · have := h.contextBank; grind
  · have := h.fillingBank; grind
  · have := h.itemBank; simp only [View.items] at *; grind
  · have := h.fullBank; simp only [View.items] at *; grind
  · have := h.free; grind

/-- A SINGLE capture and its job end (R29 to R32). -/
theorem View.Fits.endSingle {v : View} (h : v.Fits) {c : ChannelId} {ctx : CaptureContext}
    (hc : v.context c = some ctx) (hm : ctx.mode = .single) :
    { v with
      jobs := fun i => if i = ctx.site then none else v.jobs i
      state := fun d => if d = c then .idle else v.state d
      context := fun d => if d = c then none else v.context d
      bank := fun d b => if d = c ∧ b = ctx.bank then .empty else v.bank d b }.Fits := by
  obtain ⟨j, hj, hid, hmode, hmem, hst⟩ := h.held c ctx hc
  have hids := h.ids
  have hb := h.contextBank c ctx hc
  have hsing := h.single ctx.site j hj
  have em : Bank.empty = { state := .free, record := [] } := rfl
  constructor
  · have := h.home; grind
  · have := h.ids; grind
  · have := h.working; grind
  · have := h.choice; grind
  · have := h.before; grind
  · have := h.single; grind
  · have := h.paired; grind
  · have := h.distinct; grind
  · have := h.entryJob; grind
  · have := h.jobEntry; grind
  · have := h.held; grind
  · have := h.captured; grind
  · have := h.pairIdle; grind
  · have := h.pairSettling; grind
  · have := h.pairCapturing; grind
  · exact h.itemIds
  · have := h.waitJob; grind
  · have := h.waitItem; grind
  · have := h.engineJob; grind
  · have := h.engineItem; grind
  · exact h.itemBanks
  · have := h.contextBank; grind
  · have := h.fillingBank; grind
  · have := h.itemBank; simp only [View.items] at *; grind
  · have := h.fullBank; simp only [View.items] at *; grind
  · have := h.free; grind

/-- A PAIRED capture and its job end (R29 to R32). -/
theorem View.Fits.endPaired {v : View} (h : v.Fits) {g : Group} {l k : CaptureContext}
    (hl : v.context (lowChannel g) = some l) (hk : v.context (highChannel g) = some k) (hm : l.mode = .paired)
    (hkj : k.job = l.job) :
    { v with
      jobs := fun i => if i = l.site then none else v.jobs i
      state := fun d => if groupOfChannel d = g then .idle else v.state d
      context := fun d => if groupOfChannel d = g then none else v.context d
      bank := fun d b => if d = highChannel g ∧ b = k.bank then .empty
        else if d = lowChannel g ∧ b = l.bank then .empty else v.bank d b
      pair := fun e => if e = g then .idle else v.pair e }.Fits := by
  have two := group_two
  have gl := groupOf_low
  have gh := groupOf_high
  have lh := low_ne_high
  have hids := h.ids
  obtain ⟨j, hj, hid, hmode, hmem, hst⟩ := h.held _ l hl
  obtain ⟨j2, hj2, hid2, hmode2, hmem2, hst2⟩ := h.held _ k hk
  have hpair := h.paired l.site j hj
  have hbl := h.contextBank _ l hl
  have hbk := h.contextBank _ k hk
  have em : Bank.empty = { state := .free, record := [] } := rfl
  constructor
  · have := h.home; grind
  · have := h.ids; grind
  · have := h.working; grind
  · have := h.choice; grind
  · have := h.before; grind
  · have := h.single; grind
  · have := h.paired; grind
  · have := h.distinct; grind
  · have := h.entryJob; grind
  · have := h.jobEntry; grind
  · have := h.held; grind
  · have := h.captured; grind
  · have := h.pairIdle; grind
  · have := h.pairSettling; grind
  · have := h.pairCapturing; grind
  · exact h.itemIds
  · have := h.waitJob; grind
  · have := h.waitItem; grind
  · have := h.engineJob; grind
  · have := h.engineItem; grind
  · exact h.itemBanks
  · have := h.contextBank; grind
  · have := h.fillingBank; grind
  · have := h.itemBank; simp only [View.items] at *; grind
  · have := h.fullBank; simp only [View.items] at *; grind
  · have := h.free; grind

/-- A job whose item waits ends (R90, R94). -/
theorem View.Fits.endItem {v : View} (h : v.Fits) {j : Job} {item : Item} (hj : v.jobs j.site = some j)
    (hs : j.state = .analysisWait) (hi : item ∈ v.waiting) (hid : item.job = j.id) :
    { v with
      jobs := fun i => if i = j.site then none else v.jobs i
      bank := fun d b => if (d, b) ∈ banksHeld item then .empty else v.bank d b
      waiting := v.waiting.filter fun other => other.job != j.id }.Fits := by
  have hids := h.ids
  have em : Bank.empty = { state := .free, record := [] } := rfl
  have hii := h.itemIds
  have hib := h.itemBanks
  have hwj := h.waitJob
  have hej := h.engineJob
  have hmem : item ∈ v.items := by simp [View.items, hi]
  have apart : ∀ other ∈ v.items, other.job ≠ j.id → ∀ p ∈ banksHeld other, p ∉ banksHeld item := by
    intro other ho hne p hp hp'
    rw [List.nodup_flatMap] at hib
    have hs : Std.Symm (Function.onFun List.Disjoint banksHeld) := ⟨fun _ _ d => List.Disjoint.symm d⟩
    exact hib.2.forall ho hmem (by rintro rfl; exact hne hid) hp hp'
  have same : ∀ other ∈ v.items, other.job = j.id → other = item :=
    fun other ho h => List.inj_on_of_nodup_map hii ho hmem (h.trans hid.symm)
  have hf := h.itemBank item hmem
  constructor
  · have := h.home; grind
  · have := h.ids; grind
  · have := h.working; grind
  · have := h.choice; grind
  · have := h.before; grind
  · have := h.single; grind
  · have := h.paired; grind
  · have := h.distinct; grind
  · have := h.entryJob; grind
  · have := h.jobEntry; grind
  · have := h.held; grind
  · have := h.captured; grind
  · have := h.pairIdle; grind
  · have := h.pairSettling; grind
  · have := h.pairCapturing; grind
  · refine hii.sublist (List.Sublist.map _ ?_)
    exact (List.Sublist.refl _).append List.filter_sublist
  · have := h.waitJob; grind
  · have := h.waitItem; grind
  · have := h.engineJob; grind
  · have := h.engineItem; grind
  · refine List.Nodup.sublist ?_ hib
    exact ((List.Sublist.refl _).append List.filter_sublist).flatMap _
  · have := h.contextBank; grind
  · have := h.fillingBank; grind
  · have := h.itemBank; simp only [View.items] at *; grind
  · have := h.fullBank; simp only [View.items] at *; grind
  · have := h.free; grind

/-- The job of the engine's item ends (R93, R95). -/
theorem View.Fits.endEngine {v : View} (h : v.Fits) {j : Job} {item : Item} (hj : v.jobs j.site = some j)
    (hi : v.engine = some item) (hid : item.job = j.id) :
    { v with
      jobs := fun i => if i = j.site then none else v.jobs i
      bank := fun d b => if (d, b) ∈ banksHeld item then .empty else v.bank d b
      engine := none }.Fits := by
  have hids := h.ids
  have em : Bank.empty = { state := .free, record := [] } := rfl
  have hii := h.itemIds
  have hib := h.itemBanks
  have hwj := h.waitJob
  have hej := h.engineJob
  have hf := h.itemBank item (by simp [View.items, hi])
  obtain ⟨i0, j0, hj0, hid0, hst⟩ := h.engineJob item hi
  simp only [View.items, hi, Option.toList_some, List.singleton_append, List.flatMap_cons, List.nodup_append, List.map_cons, List.nodup_cons] at hib hii
  constructor
  · have := h.home; grind
  · have := h.ids; grind
  · have := h.working; grind
  · have := h.choice; grind
  · have := h.before; grind
  · have := h.single; grind
  · have := h.paired; grind
  · have := h.distinct; grind
  · have := h.entryJob; grind
  · have := h.jobEntry; grind
  · have := h.held; grind
  · have := h.captured; grind
  · have := h.pairIdle; grind
  · have := h.pairSettling; grind
  · have := h.pairCapturing; grind
  · simpa [View.items] using hii.2
  · have := h.waitJob; grind
  · have := h.waitItem; grind
  · have := h.engineJob; grind
  · have := h.engineItem; grind
  · simpa [View.items] using hib.2.1
  · have := h.contextBank; grind
  · have := h.fillingBank; grind
  · have := h.itemBank; simp only [View.items] at *; grind
  · have := h.fullBank; simp only [View.items] at *; grind
  · have := h.free; grind

end Sys2Proof.Machine
end

