-- ==== Sys2Proof/Laws/Work.lean ====
section
/-! SUPPORT. Every operation of the part keeps each live job with exactly the work its state says. -/

namespace Sys2Proof.Machine

/-- Each live job has exactly the work its state says. -/
abbrev Works (s : State) : Prop := (viewOf s).Fits

/-! ### What a view sees of an update -/

/-- What is kept for a group after one group's thing is replaced. -/
theorem PerGroup.of_put {α : Type} (p : PerGroup α) (g k : Group) (x : α) : (p.put g x).of k = if k = g then x else p.of k := by
  cases g <;> cases k <;> rfl

@[simp] theorem viewOf_setChannel (c : ChannelId) (x : Channel) (s : State) : viewOf (setChannel c x s) =
    { viewOf s with
      state := fun d => if d = c then x.state else (viewOf s).state d
      context := fun d => if d = c then x.context else (viewOf s).context d
      bank := fun d b => if d = c then bankOf x b else (viewOf s).bank d b } := by
  have h := fun d => channelOfState_setChannel c d x s
  simp only [viewOf, View.mk.injEq]
  refine ⟨rfl, rfl, ?_, ?_, ?_, rfl, rfl, rfl⟩ <;> funext d <;> (try funext b) <;> rw [h] <;> grind

@[simp] theorem viewOf_setJob (i : Site) (j : Option Job) (s : State) : viewOf (setJob i j s) =
    { viewOf s with jobs := fun k => if k = i then j else (viewOf s).jobs k } := by
  simp only [viewOf, View.mk.injEq]
  refine ⟨?_, rfl, rfl, rfl, rfl, rfl, rfl, rfl⟩
  funext k
  exact (jobAt_setJob i k j s).trans (if_congr eq_comm rfl rfl)

@[simp] theorem viewOf_setQueue (g : Group) (q : List Entry) (s : State) : viewOf (setQueue g q s) =
    { viewOf s with queues := fun k => if k = g then q else (viewOf s).queues k } := by
  simp only [viewOf, View.mk.injEq]
  refine ⟨rfl, ?_, rfl, rfl, rfl, rfl, rfl, rfl⟩
  funext k
  exact PerGroup.of_put _ g k q

@[simp] theorem viewOf_setPair (g : Group) (p : PairUnit) (s : State) : viewOf (setPair g p s) =
    { viewOf s with pair := fun k => if k = g then p else (viewOf s).pair k } := by
  simp only [viewOf, View.mk.injEq]
  refine ⟨rfl, rfl, rfl, rfl, rfl, ?_, rfl, rfl⟩
  funext k
  exact PerGroup.of_put _ g k p

@[simp] theorem viewOf_setEngine (e : Engine) (s : State) : viewOf (setEngine e s) =
    { viewOf s with engine := engineItem e } := rfl

@[simp] theorem viewOf_setLink (l : Link) (s : State) : viewOf (setLink l s) = viewOf s := rfl
@[simp] theorem viewOf_setRecord (c : ChannelId) (r : CalRecord) (s : State) : viewOf (setRecord c r s) = viewOf s := rfl
@[simp] theorem viewOf_setSection (g : Group) (x : CalSection) (s : State) : viewOf (setSection g x s) = viewOf s := rfl
@[simp] theorem viewOf_raise (f : NoticeFlag) (s : State) : viewOf (raise f s) = viewOf s := rfl

@[simp] theorem viewOf_passTicks (n : Nat) (s : State) : viewOf (passTicks n s) = viewOf s := by
  unfold passTicks; split <;> rfl

@[simp] theorem viewOf_followIdle (s : State) : viewOf (followIdle s) = viewOf s := by
  unfold followIdle; dsimp only; split <;> rfl

@[simp] theorem viewOf_post (r : ResultRecord) (s : State) : viewOf (post r s) = viewOf s := by
  unfold post; dsimp only; split <;> rfl

@[simp] theorem viewOf_lowerInUse (j : Job) (s : State) : viewOf (lowerInUse j s) = viewOf s := by
  unfold lowerInUse; split <;> rfl

@[simp] theorem viewOf_finishJob (j : Job) (w : Working) (s : State) : viewOf (finishJob j w s) =
    { viewOf s with jobs := fun k => if k = j.site then none else (viewOf s).jobs k } := by
  simp [finishJob]

theorem viewOf_toDueTick {c : ChannelId} {s t : State} (h : toDueTick c s = some t) : viewOf t = viewOf s := by
  unfold toDueTick at h
  split at h
  · simp at h
  · split at h
    · cases h; simp
    · simp at h

/-- Each live job is kept at its own site, and no two have one id (R58, R62). -/
def Named (s : State) : Prop :=
  (∀ i j, jobAt s i = some j → j.site = i) ∧ ∀ i k j l, jobAt s i = some j → jobAt s k = some l → j.id = l.id → i = k

/-- In a view that fits, jobs are at home and ids apart. -/
theorem View.Fits.named {s : State} (h : Works s) : Named s := ⟨h.home, h.ids⟩

/-- A live job is found by its id. -/
theorem jobWithId_eq {s : State} (h : Named s) {i : Site} {j : Job} (hj : jobAt s i = some j) : jobWithId s j.id = some j := by
  unfold jobWithId
  cases hf : (liveJobs s).find? fun k => k.id == j.id with
  | none =>
    rw [List.find?_eq_none] at hf
    exact absurd (by simp) (hf j (mem_liveJobs.2 ⟨i, hj⟩))
  | some l =>
    obtain ⟨k, hk⟩ := mem_liveJobs.1 (List.mem_of_find?_eq_some hf)
    have hid : l.id = j.id := by simpa using List.find?_some hf
    obtain rfl := h.2 _ _ _ _ hk hj hid
    rw [hj] at hk
    exact hk.symm ▸ rfl

/-- What is found by an id is a live job of that id. -/
theorem jobWithId_some {s : State} {id : Nat} {j : Job} (h : jobWithId s id = some j) : j.id = id ∧ ∃ i, jobAt s i = some j :=
  ⟨by simpa using List.find?_some h, mem_liveJobs.1 (List.mem_of_find?_eq_some h)⟩

/-- One job's record changes. -/
theorem viewOf_updateJob {s : State} (h : Named s) (id : Nat) (change : Job → Job) :
    viewOf (updateJob id change s) =
      { viewOf s with jobs := fun i => ((viewOf s).jobs i).map fun (j : Job) => if j.id = id then change j else j } := by
  unfold updateJob
  cases hw : jobWithId s id with
  | none =>
    simp only [viewOf, View.mk.injEq, and_true]
    funext i
    cases hj : jobAt s i with
    | none => rfl
    | some j =>
      have : j.id ≠ id := by
        rintro rfl
        rw [jobWithId_eq h hj] at hw
        exact absurd hw (by simp)
      simp [this]
  | some j =>
    obtain ⟨rfl, i, hj⟩ := jobWithId_some hw
    obtain rfl := h.1 i j hj
    rw [viewOf_setJob]
    simp only [viewOf, View.mk.injEq, and_true]
    funext k
    split
    · next hk => subst hk; simp [hj]
    · next hk =>
      cases hl : jobAt s k with
      | none => rfl
      | some l =>
        have : l.id ≠ j.id := fun e => hk (h.2 _ _ _ _ hl hj e)
        simp [this]

/-- A job is no longer live. -/
theorem viewOf_endJob {s : State} (h : Named s) {i : Site} {j : Job} (hj : jobAt s i = some j) {id : Nat} (hid : j.id = id)
    (status : Ending) :
    viewOf (endJob id status s) = { viewOf s with jobs := fun k => if k = i then none else (viewOf s).jobs k } := by
  subst hid
  unfold endJob
  rw [jobWithId_eq h hj]
  simp [h.1 i j hj]

/-- A channel's banks after one of them is replaced. -/
theorem bankOf_withBank (ch : Channel) (a b : Fin 2) (x : Bank) : bankOf (withBank ch a x) b = if b = a then x else bankOf ch b := by
  revert a b; simp [Fin.forall_fin_two, bankOf, withBank]

theorem withBank_state (ch : Channel) (a : Fin 2) (x : Bank) : (withBank ch a x).state = ch.state := by
  unfold withBank; split <;> rfl

theorem withBank_context (ch : Channel) (a : Fin 2) (x : Bank) : (withBank ch a x).context = ch.context := by
  unfold withBank; split <;> rfl

theorem View.Fits.of_eq {v w : View} (h : v.Fits) (e : v = w) : w.Fits := e ▸ h

/-- The context that a start gate leaves (R22). -/
def gateContext (ctx : CaptureContext) (s : State) : CaptureContext :=
  { ctx with nextIndex := -2, previous := none, deadline := some (tickAfter s ctx.timeout) }

/-- A channel's gate opens (R22). -/
theorem viewOf_openGate {c : ChannelId} {ctx : CaptureContext} {s : State} (hc : (channelOfState s c).context = some ctx) :
    viewOf (openGate c s) =
      { viewOf s with
        state := fun d => if d = c then .capturing else (viewOf s).state d
        context := fun d => if d = c then some (gateContext ctx s) else (viewOf s).context d } := by
  simp only [openGate, hc, viewOf_setChannel, View.mk.injEq, true_and, and_true]
  refine ⟨rfl, ?_⟩
  funext d b
  split
  · next h => subst h; rfl
  · rfl

/-- A report to the pair unit keeps the work (R23). -/
theorem reportSettled_fits {c : ChannelId} {s : State} (h : Works s) : Works (reportSettled c s) := by
  unfold reportSettled
  dsimp only
  generalize hg : groupOfChannel c = g
  split
  · next job low high hp =>
    split
    · next hb =>
      obtain ⟨_, _, l, hl, _, hlj⟩ := h.pairSettling (lowChannel g) job low high (by rw [groupOf_low]; exact hp)
      obtain ⟨_, _, k, hk, _, hkj⟩ := h.pairSettling (highChannel g) job low high (by rw [groupOf_high]; exact hp)
      have hk' : (channelOfState (openGate (lowChannel g) s) (highChannel g)).context = some k := by
        have := congrArg (fun v => v.context (highChannel g)) (viewOf_openGate (s := s) hl)
        exact this.trans ((if_neg (low_ne_high g).symm).trans hk)
      have hn : Named (setPair g (.capturing job false false) (openGate (highChannel g) (openGate (lowChannel g) s))) := by
        have := h.named
        unfold Named at *
        simpa [jobAt] using this
      subst hlj
      refine (h.openPaired (g := g) (l := l) (k := k) (l' := gateContext l s)
        (k' := gateContext k (openGate (lowChannel g) s)) hp hl hk rfl rfl rfl rfl rfl rfl rfl rfl rfl rfl).of_eq ?_
      rw [setJobState, viewOf_updateJob hn, viewOf_setPair, viewOf_openGate hk', viewOf_openGate hl]
      simp only [View.mk.injEq, true_and, and_true]
      have two := group_two
      have gl := groupOf_low
      have gh := groupOf_high
      funext d
      grind
    · next hb => exact (h.settledOne (low' := low || decide (c = lowChannel g)) (high' := high || decide (c = highChannel g)) hp
        (fun e => hb (by rw [e.1, e.2]; rfl))).of_eq (by rw [viewOf_setPair])
  · exact h

/-- A settling end keeps the work (R21 to R23). -/
theorem takeSettlingEnd_fits {c : ChannelId} {s : State} (h : Works s)
    (hs : (channelOfState s c).state = .settling) : Works (takeSettlingEnd c s) := by
  unfold takeSettlingEnd
  split
  · exact h
  · next ctx hc =>
    split
    · next hm =>
      have hn : Named (openGate c s) := by
        have := h.named
        unfold Named at *
        simpa [jobAt] using this
      refine (h.openSingle (ctx' := gateContext ctx s) hc hs hm rfl rfl rfl rfl).of_eq ?_
      rw [setJobState, viewOf_updateJob hn, viewOf_openGate hc]
    · exact reportSettled_fits h

theorem endSettling_fits {c : ChannelId} {s : State} (h : Works s) : Works (endSettling c s) := by
  unfold endSettling
  split
  · next hs =>
    split
    · next t ht =>
      have e := viewOf_toDueTick ht
      refine takeSettlingEnd_fits (h.of_eq e.symm) ?_
      exact (congrArg (fun v => v.state c) e).trans hs
    · exact h
  · exact h

/-! ### The dispatchers -/

/-- A channel takes its dispatch (R20). -/
theorem viewOf_takeDispatch (j : Job) (s : State) (c : ChannelId) : viewOf (takeDispatch j s c) =
    { viewOf s with
      state := fun d => if d = c then .settling else (viewOf s).state d
      context := fun d => if d = c then some (contextFor s j c) else (viewOf s).context d
      bank := fun d b => if d = c ∧ b = bankTaken (channelOfState s c) then { state := .filling, record := [] }
        else (viewOf s).bank d b } := by
  simp only [takeDispatch, viewOf_setChannel, View.mk.injEq, true_and, and_true]
  funext d b
  have := bankOf_withBank (channelOfState s c) (bankTaken (channelOfState s c)) b { state := .filling, record := [] }
  have e : ∀ (x : Channel) (st sel ratio ctx), bankOf { x with state := st, selector := sel, ratio := ratio, context := ctx } b =
    bankOf x b := fun _ _ _ _ _ => rfl
  rw [e, this]
  simp only [viewOf]
  grind

/-- The bank a dispatch takes is FREE (R20). -/
theorem bankTaken_free {ch : Channel} (h : 0 < freeBanks ch) : (bankOf ch (bankTaken ch)).state = .free := by
  unfold freeBanks at h
  unfold bankTaken
  split
  · next h0 => simpa [bankOf] using h0
  · next h0 =>
    rw [if_neg h0] at h
    split at h
    · next h1 => simpa [bankOf] using h1
    · exact absurd h (by decide)

/-- A channel that qualifies is IDLE with a FREE bank (R69). -/
theorem qualifies_spec {s : State} {c : ChannelId} (h : qualifies s c = true) :
    (channelOfState s c).state = .idle ∧ (bankOf (channelOfState s c) (bankTaken (channelOfState s c))).state = .free := by
  simp only [qualifies, Bool.and_eq_true, decide_eq_true_eq] at h
  exact ⟨h.1.1.1, bankTaken_free h.1.2⟩

/-- ANY gives a channel of the group that qualifies (R70). -/
theorem anyChannel_spec {s : State} {g : Group} {c : ChannelId} (h : anyChannel s g = some c) :
    qualifies s c = true ∧ groupOfChannel c = g := by
  have gl := groupOf_low
  have gh := groupOf_high
  simp only [anyChannel] at h
  grind

/-- The dispatch of a job keeps the work (R68 to R73). -/
theorem dispatchJob_fits {g : Group} {s : State} {j : Job} {cs : List ChannelId} {rest : List Entry} (h : Works s)
    (hq : queueOf s g = Entry.job j.id j.site :: rest) (hj : jobAt s j.site = some j) (hc : channelsFor s g j = some cs) :
    Works (dispatchJob g j cs rest s) := by
  obtain rfl : groupOfSite j.site = g := (h.entryJob g j.id j.site (by rw [show (viewOf s).queues g = _ from hq]; simp)).1
  unfold channelsFor at hc
  split at hc
  · cases hc
  next hst =>
  have hst : j.state = .queued := Classical.not_not.1 hst
  split at hc
  · next hm =>
    split at hc
    · next hqual =>
      simp only [Bool.and_eq_true] at hqual
      cases hc
      obtain ⟨hil, hbl⟩ := qualifies_spec hqual.1
      obtain ⟨hih, hbh⟩ := qualifies_spec hqual.2
      let u := setJob j.site
        (some { j with channels := [lowChannel (groupOfSite j.site), highChannel (groupOfSite j.site)], state := .settling })
        (setQueue (groupOfSite j.site) rest s)
      let u' := takeDispatch j u (lowChannel (groupOfSite j.site))
      refine (h.dispatchPaired (l := contextFor u j (lowChannel (groupOfSite j.site)))
        (k := contextFor u' j (highChannel (groupOfSite j.site))) hq hj hst hm hil hih hbl ?_ rfl rfl hm rfl rfl hm).of_eq ?_
      · have : channelOfState u' (highChannel (groupOfSite j.site)) = channelOfState s (highChannel (groupOfSite j.site)) := by
          simp only [u', u, takeDispatch]
          simp [channelOfState_setChannel, low_ne_high]
        simp only [contextFor, this]
        exact hbh
      · simp only [dispatchJob, hm, List.foldl_cons, List.foldl_nil, viewOf_setPair, viewOf_takeDispatch, viewOf_setJob,
          viewOf_setQueue]
        have two := group_two
        have gl := groupOf_low
        have gh := groupOf_high
        simp only [View.mk.injEq, true_and, and_true]
        refine ⟨?_, rfl, rfl⟩
        funext d; grind
    · cases hc
  · next hm =>
    have key : ∀ c, qualifies s c = true → groupOfChannel c = groupOfSite j.site → cs = [c] →
        Works (dispatchJob (groupOfSite j.site) j cs rest s) := by
      rintro c hqc hgc rfl
      obtain ⟨hi, hb⟩ := qualifies_spec hqc
      let u := setJob j.site (some { j with channels := [c], state := .settling }) (setQueue (groupOfSite j.site) rest s)
      refine (h.dispatchSingle (ctx := contextFor u j c) hq hj hst hm hgc hi hb rfl rfl hm).of_eq ?_
      simp only [dispatchJob, hm, List.foldl_cons, List.foldl_nil, viewOf_takeDispatch, viewOf_setJob, viewOf_setQueue]
      rfl
    split at hc
    · next c hch =>
      split at hc
      · next hqc => cases hc; exact key c hqc (h.choice j.site j c hj hch) rfl
      · cases hc
    · cases ha : anyChannel s (groupOfSite j.site) with
      | none => rw [ha] at hc; cases hc
      | some c =>
        rw [ha] at hc
        cases hc
        exact key c (anyChannel_spec ha).1 (anyChannel_spec ha).2 rfl

/-- The dispatch of a calibration entry keeps the work (R40, R72). -/
theorem dispatchCalibration_fits {g : Group} {c : ChannelId} {s : State} {rest : List Entry} (h : Works s)
    (hq : queueOf s g = Entry.calibration c :: rest) (hr : calibrationCanRun s g c = true) :
    Works (dispatchCalibration g c rest s) := by
  simp only [calibrationCanRun, Bool.and_eq_true, decide_eq_true_eq] at hr
  have h1 := h.takeCalibration g c rest hq
  have h2 := h1.channelState c .calibrating (h.no_context (c := c) (by simp [show (viewOf s).state c = _ from hr.1.1])) (.inr rfl)
  refine h2.of_eq ?_
  simp only [dispatchCalibration, viewOf_setChannel, viewOf_setRecord, viewOf_setSection, viewOf_setQueue]
  simp only [View.mk.injEq, true_and, and_true]
  refine ⟨?_, ?_⟩
  · funext d; split
    · next hd => subst hd; rfl
    · rfl
  · funext d b; split
    · next hd => subst hd; rfl
    · rfl

theorem examineHead_fits {g : Group} {s t : State} (h : Works s) (he : examineHead g s = some t) : Works t := by
  unfold examineHead at he
  split at he
  · cases he
  · next c rest hq =>
    split at he
    · next hr => cases he; exact dispatchCalibration_fits h hq hr
    · cases he
  · next id site rest hq =>
    split at he
    · cases he
    · next j hj =>
      split at he
      · next hid =>
        subst hid
        obtain rfl := h.home site j hj
        cases hc : channelsFor s g j with
        | none => rw [hc] at he; cases he
        | some cs => rw [hc] at he; cases he; exact dispatchJob_fits h hq hj hc
      · cases he

/-- A dispatcher's examination keeps the work (R68). -/
theorem examine_fits {g : Group} {s : State} (h : Works s) : Works (examine g s) :=
  examine_preserves (P := fun s => Works s) (fun _ _ => examineHead_fits) h

theorem examineBoth_fits {s : State} (h : Works s) : Works (examineBoth s) :=
  examine_fits (examine_fits h)

theorem Named.congr {s t : State} (h : Named s) (e : t.jobs = s.jobs) : Named t := by
  unfold Named jobAt at *
  rw [e]
  exact h

/-! ### The engine and its queue -/

/-- The engine's taking of an item keeps the work (R91). -/
theorem takeItem_fits {s : State} (h : Works s) : Works (takeItem s) := by
  unfold takeItem
  split
  · next item rest he hq =>
    have hv : (viewOf s).engine = none := by simp only [viewOf, he]; rfl
    refine (h.takeItem hv hq).of_eq ?_
    have hn : Named { s with analysisQueue := rest, engine := .timePass item emptyWorking } := h.named.congr rfl
    rw [setJobState, viewOf_updateJob hn]
    rfl
  · exact h

theorem viewOf_freeBank (c : ChannelId) (b : Fin 2) (s : State) : viewOf (freeBank c b s) =
    { viewOf s with bank := fun d e => if d = c ∧ e = b then .empty else (viewOf s).bank d e } := by
  simp only [freeBank, viewOf_setChannel, View.mk.injEq, true_and, and_true, withBank_state, withBank_context]
  refine ⟨?_, ?_, ?_⟩
  · funext d; split
    · next hd => subst hd; rfl
    · rfl
  · funext d; split
    · next hd => subst hd; rfl
    · rfl
  · funext d e
    rw [bankOf_withBank]
    simp only [viewOf]
    grind

theorem viewOf_freeItemBanks (item : Item) (s : State) : viewOf (freeItemBanks item s) =
    { viewOf s with bank := fun d e => if (d, e) ∈ banksHeld item then .empty else (viewOf s).bank d e } := by
  cases hs : item.second <;>
    simp only [freeItemBanks, hs, viewOf_freeBank, View.mk.injEq, true_and, and_true, banksHeld, Option.toList_none,
      Option.toList_some, List.map_cons, List.map_nil, List.mem_cons, Prod.mk.injEq, List.not_mem_nil, or_false] <;>
    funext d e <;> grind

/-! ### Ends of a capture -/

theorem viewOf_releaseChannel {c : ChannelId} {ctx : CaptureContext} {s : State}
    (hc : (channelOfState s c).context = some ctx) : viewOf (releaseChannel c s) =
      { viewOf s with
        state := fun d => if d = c then .idle else (viewOf s).state d
        context := fun d => if d = c then none else (viewOf s).context d
        bank := fun d b => if d = c ∧ b = ctx.bank then .empty else (viewOf s).bank d b } := by
  simp only [releaseChannel, hc, viewOf_setChannel, View.mk.injEq, true_and, and_true]
  funext d b
  have e : ∀ (x : Channel) (st ctx), bankOf { x with state := st, context := ctx } b = bankOf x b := fun _ _ _ => rfl
  rw [e, bankOf_withBank]
  simp only [viewOf]
  grind

/-- A PAIRED context stands beside the other of its pair (R23). -/
theorem View.Fits.pair_of_paired {v : View} (h : v.Fits) {c : ChannelId} {ctx : CaptureContext} (hc : v.context c = some ctx)
    (hm : ctx.mode = .paired) : ∃ l k, v.context (lowChannel (groupOfChannel c)) = some l ∧
      v.context (highChannel (groupOfChannel c)) = some k ∧ l.mode = .paired ∧ k.mode = .paired ∧ l.job = ctx.job ∧
      k.job = ctx.job ∧ l.site = ctx.site := by
  have two := group_two
  have gl := groupOf_low
  have gh := groupOf_high
  have hids := h.ids
  have hheld := h.held
  have h1 := h.pairSettling
  have h2 := h.pairCapturing
  have h3 := h.pairIdle
  cases hp : v.pair (groupOfChannel c) with
  | idle => exact absurd (h3 c ctx hp hc) (by rw [hm]; decide)
  | settling job low high =>
    obtain ⟨_, _, l, hl, hlm, hlj⟩ := h1 (lowChannel (groupOfChannel c)) job low high (by rw [gl]; exact hp)
    obtain ⟨_, _, k, hk, hkm, hkj⟩ := h1 (highChannel (groupOfChannel c)) job low high (by rw [gh]; exact hp)
    obtain ⟨i1, a1, a2, _⟩ := hheld _ l hl
    obtain ⟨i2, b1, b2, _⟩ := hheld _ k hk
    refine ⟨l, k, hl, hk, hlm, hkm, ?_⟩
    grind
  | capturing job low high =>
    obtain ⟨_, _, l, hl, hlm, hlj, _⟩ := h2 (lowChannel (groupOfChannel c)) job low high (by rw [gl]; exact hp)
    obtain ⟨_, _, k, hk, hkm, hkj, _⟩ := h2 (highChannel (groupOfChannel c)) job low high (by rw [gh]; exact hp)
    obtain ⟨i1, a1, a2, _⟩ := hheld _ l hl
    obtain ⟨i2, b1, b2, _⟩ := hheld _ k hk
    refine ⟨l, k, hl, hk, hlm, hkm, ?_⟩
    grind

/-- A capture that stops and the end of its job keep the work (R29 to R32, R65). -/
theorem endCapture_fits {c : ChannelId} {ctx : CaptureContext} {status : Ending} {s : State} (h : Works s)
    (hc : (channelOfState s c).context = some ctx) : Works (endJob ctx.job status (stopCapture c ctx.mode s)) := by
  obtain ⟨j, hj, hid, -⟩ := h.held c ctx hc
  have hn : Named (stopCapture c ctx.mode s) := h.named.congr (by simp)
  rw [Works, viewOf_endJob hn (i := ctx.site) (j := j) (by rw [jobAt, stopCapture_jobs]; exact hj) hid]
  cases hm : ctx.mode with
  | single =>
    refine (h.endSingle hc hm).of_eq ?_
    rw [stopCapture, viewOf_releaseChannel hc]
  | paired =>
    obtain ⟨l, k, hl, hk, hlm, hkm, hlj, hkj, hsite⟩ := h.pair_of_paired hc hm
    have hk' : (channelOfState (releaseChannel (lowChannel (groupOfChannel c)) s)
        (highChannel (groupOfChannel c))).context = some k := by
      have := congrArg (fun v => v.context (highChannel (groupOfChannel c))) (viewOf_releaseChannel (s := s) hl)
      exact this.trans ((if_neg (low_ne_high _).symm).trans hk)
    refine (h.endPaired hl hk hlm (hkj.trans hlj.symm)).of_eq ?_
    have two := group_two
    have gl := groupOf_low
    have gh := groupOf_high
    rw [stopCapture, viewOf_setPair, viewOf_releaseChannel hk', viewOf_releaseChannel hl, hsite]
    simp only [View.mk.injEq, true_and, and_true]
    refine ⟨?_, ?_⟩ <;> funext d <;> grind

theorem failCapture_fits {c : ChannelId} {ctx : CaptureContext} {status : Ending} {s : State} (h : Works s)
    (hc : (channelOfState s c).context = some ctx) : Works (failCapture c ctx status s) := by
  rw [failCapture, Works, viewOf_followIdle]
  exact examine_fits (endCapture_fits h hc)

theorem loseCapture_fits {s : State} (h : Works s) (c : ChannelId) : Works (loseCapture s c) := by
  unfold loseCapture
  split
  · exact h
  · next ctx hc => exact endCapture_fits h hc

/-! ### Completions -/

theorem viewOf_fillBank (c : ChannelId) (ctx : CaptureContext) (s : State) : viewOf (fillBank c ctx s) =
    { viewOf s with
      state := fun d => if d = c then .idle else (viewOf s).state d
      context := fun d => if d = c then none else (viewOf s).context d
      bank := fun d b => if d = c ∧ b = ctx.bank then { state := .full, record := ((viewOf s).bank c ctx.bank).record }
        else (viewOf s).bank d b } := by
  simp only [fillBank, viewOf_setChannel, View.mk.injEq, true_and, and_true]
  funext d b
  have e : ∀ (x : Channel) (st ctx), bankOf { x with state := st, context := ctx } b = bankOf x b := fun _ _ _ => rfl
  rw [e, bankOf_withBank]
  simp only [viewOf]
  grind

theorem viewOf_joinWaiting (item : Item) (s : State) :
    viewOf { s with analysisQueue := s.analysisQueue ++ [item] } = { viewOf s with waiting := (viewOf s).waiting ++ [item] } :=
  rfl

theorem Named.congr' {s t : State} (h : Named s) (e : jobAt t = jobAt s) : Named t := by
  unfold Named at *
  rw [e]
  exact h

theorem viewOf_setWaiting {item : Item} {s : State} (h : Named s) :
    viewOf (setJobState item.job .analysisWait { s with analysisQueue := s.analysisQueue ++ [item] }) =
      { viewOf s with
        jobs := fun i => ((viewOf s).jobs i).map fun (j : Job) => if j.id = item.job then { j with state := .analysisWait } else j
        waiting := (viewOf s).waiting ++ [item] } := by
  have hn : Named { s with analysisQueue := s.analysisQueue ++ [item] } := h
  rw [setJobState, viewOf_updateJob hn, viewOf_joinWaiting]

/-- The completion of a SINGLE record keeps the work (R27). -/
theorem completeSingle_fits {c : ChannelId} {ctx : CaptureContext} {s : State} (h : Works s)
    (hc : (channelOfState s c).context = some ctx) (hs : (channelOfState s c).state = .capturing) (hm : ctx.mode = .single) :
    Works (completeSingle c ctx s) := by
  rw [completeSingle, Works, viewOf_followIdle]
  refine examine_fits (takeItem_fits ?_)
  refine (h.joinSingle (item := { job := ctx.job, first := legOf c ctx, second := none })
    (r := ((viewOf s).bank c ctx.bank).record) hc hs hm rfl rfl).of_eq ?_
  rw [viewOf_setWaiting (h.named.congr (by simp)), viewOf_fillBank]

/-- The completion of a pair keeps the work: `s` is the part before the last timestamp, `t` the part with it (R28). -/
theorem completePair_fits {g : Group} {job : Nat} {low high : Bool} {l k l' k' : CaptureContext} {s t : State}
    (h : Works s) (hp : pairOf s g = .capturing job low high)
    (hl : (channelOfState s (lowChannel g)).context = some l) (hk : (channelOfState s (highChannel g)).context = some k)
    (l1 : l'.job = l.job) (l2 : l'.bank = l.bank) (k2 : k'.bank = k.bank)
    (ht : viewOf t = { viewOf s with context := (viewOf t).context, bank := (viewOf t).bank })
    (hb : ∀ d b, ¬(d = lowChannel g ∧ b = l.bank) → ¬(d = highChannel g ∧ b = k.bank) →
      (viewOf t).bank d b = (viewOf s).bank d b)
    (hx : ∀ d, groupOfChannel d ≠ g → (viewOf t).context d = (viewOf s).context d) :
    Works (completePair g l' k' t) := by
  rw [completePair, Works, viewOf_followIdle]
  refine examine_fits (takeItem_fits ?_)
  refine (h.joinPair (item := { job := l'.job, first := legOf (lowChannel g) l', second := some (legOf (highChannel g) k') })
    (r := ((viewOf t).bank (lowChannel g) l.bank).record) (q := ((viewOf t).bank (highChannel g) k.bank).record)
    hp hl hk l1 (by simp [banksHeld, legOf, l2, k2])).of_eq ?_
  have hn : Named t := by
    have := congrArg View.jobs ht
    exact h.named.congr' this
  rw [viewOf_setWaiting (hn.congr (by simp)), viewOf_setPair, viewOf_fillBank, viewOf_fillBank, ht]
  have two := group_two
  have gl := groupOf_low
  have gh := groupOf_high
  have lh := low_ne_high
  simp only [View.mk.injEq, true_and, and_true, l2, k2]
  refine ⟨?_, ?_, ?_⟩
  · funext d; grind
  · funext d; grind
  · funext d b
    have := hb d b
    grind

theorem withTimestamp_eq (ctx : CaptureContext) (t : Timestamp) (b : Bank) :
    withTimestamp ctx t b = { state := b.state, record := (withTimestamp ctx t b).record } := by
  unfold withTimestamp; split <;> rfl

/-- A timestamp is kept (R24). -/
theorem viewOf_storeTimestamp {c : ChannelId} {ctx : CaptureContext} {t : Timestamp} {s : State} (h : Works s)
    (hc : (channelOfState s c).context = some ctx) : ∃ r, viewOf (storeTimestamp c ctx t s) =
      { viewOf s with
        context := fun d => if d = c then some (nextContext ctx t (tickAfter s ctx.timeout)) else (viewOf s).context d
        bank := fun d b => if d = c ∧ b = ctx.bank then { state := .filling, record := r } else (viewOf s).bank d b } := by
  refine ⟨(withTimestamp ctx t (bankOf (channelOfState s c) ctx.bank)).record, ?_⟩
  have hf := h.contextBank c ctx hc
  simp only [storeTimestamp, viewOf_setChannel, View.mk.injEq, true_and, and_true]
  refine ⟨?_, ?_⟩
  · funext d; rw [withBank_state]; split
    · next hd => subst hd; rfl
    · rfl
  · funext d b
    have e : ∀ (x : Channel) (ctx), bankOf { x with context := ctx } b = bankOf x b := fun _ _ => rfl
    rw [e, bankOf_withBank, withTimestamp_eq]
    simp only [viewOf] at *
    grind

/-- The last timestamp of a paired record keeps the work (R28). -/
theorem reportFull_fits {c : ChannelId} {ctx : CaptureContext} {t : Timestamp} {s : State} (h : Works s)
    (hc : (channelOfState s c).context = some ctx) (hs : (channelOfState s c).state = .capturing) (hm : ctx.mode = .paired)
    (hlast : isLastIndex ctx = true) : Works (reportFull c (storeTimestamp c ctx t s)) := by
  obtain ⟨r, hv⟩ := viewOf_storeTimestamp (t := t) h hc
  generalize storeTimestamp c ctx t s = u at hv
  have hpu : ∀ g, pairOf u g = pairOf s g := fun g => congrArg (fun v => v.pair g) hv
  have hctx : ∀ d, (channelOfState u d).context = if d = c then some (nextContext ctx t (tickAfter s ctx.timeout))
      else (channelOfState s d).context := fun d => congrArg (fun v => v.context d) hv
  have hbank : ∀ d b, (viewOf u).bank d b = if d = c ∧ b = ctx.bank then { state := .filling, record := r }
      else (viewOf s).bank d b := fun d b => congrArg (fun v => v.bank d b) hv
  have hdl : (nextContext ctx t (tickAfter s ctx.timeout)).deadline = none := by simp [nextContext, hlast]
  generalize hn : nextContext ctx t (tickAfter s ctx.timeout) = ctx' at hv hctx hdl
  have n1 : ctx'.job = ctx.job := by subst hn; rfl
  have n2 : ctx'.site = ctx.site := by subst hn; rfl
  have n3 : ctx'.mode = ctx.mode := by subst hn; rfl
  have n4 : ctx'.bank = ctx.bank := by subst hn; rfl
  have two := group_two
  have gl := groupOf_low
  have gh := groupOf_high
  have lh := low_ne_high
  unfold reportFull
  dsimp only
  split
  · next job low high hp =>
    rw [hpu] at hp
    obtain ⟨_, _, l, hl, _, hlj, _⟩ := h.pairCapturing (lowChannel (groupOfChannel c)) job low high (by rw [gl]; exact hp)
    obtain ⟨_, _, k, hk, _, hkj, _⟩ := h.pairCapturing (highChannel (groupOfChannel c)) job low high (by rw [gh]; exact hp)
    simp only [viewOf] at hl hk
    split
    · next hb =>
      have hlu := hctx (lowChannel (groupOfChannel c))
      have hku := hctx (highChannel (groupOfChannel c))
      obtain ⟨l', hl', l1, l2⟩ : ∃ l', (channelOfState u (lowChannel (groupOfChannel c))).context = some l' ∧
          l'.job = l.job ∧ l'.bank = l.bank := by grind
      obtain ⟨k', hk', k2⟩ : ∃ k', (channelOfState u (highChannel (groupOfChannel c))).context = some k' ∧
          k'.bank = k.bank := by grind
      rw [hl', hk']
      refine completePair_fits h hp hl hk l1 l2 k2 ?_ ?_ ?_
      · rw [hv]
      · intro d b
        rw [hbank]
        grind
      · intro d
        have := hctx d
        simp only [viewOf]
        grind
    · next hb =>
      refine (h.fullOne (ctx' := ctx') (r := r) (low' := low || decide (c = lowChannel (groupOfChannel c)))
        (high' := high || decide (c = highChannel (groupOfChannel c))) hp hc n1 n2 n3 n4 hdl rfl rfl
        (fun e => hb (by rw [e.1, e.2]; rfl))).of_eq ?_
      rw [viewOf_setPair, hv]
  · next hne =>
    exfalso
    cases hp : pairOf s (groupOfChannel c) with
    | idle => exact absurd (h.pairIdle c ctx hp hc) (by rw [hm]; decide)
    | settling job low high => exact absurd ((h.pairSettling c job low high hp).2.1.symm.trans hs) (by decide)
    | capturing job low high => exact hne job low high (by rw [hpu]; exact hp)

/-- A timestamp keeps the work (R24 to R30). -/
theorem takeTimestamp_fits {c : ChannelId} {ctx : CaptureContext} {t : Timestamp} {s : State} (h : Works s)
    (hc : (channelOfState s c).context = some ctx) (hs : (channelOfState s c).state = .capturing)
    (hd : ctx.deadline.isSome = true) : Works (takeTimestamp c ctx t s) := by
  unfold takeTimestamp
  split
  · dsimp only
    obtain ⟨r, hv⟩ := viewOf_storeTimestamp (t := t) h hc
    have hdn : ctx.deadline ≠ none := by intro e; simp [e] at hd
    have move : (ctx.mode = .paired → isLastIndex ctx = false) → Works (storeTimestamp c ctx t s) := by
      intro hnl
      refine (h.moveContext (ctx' := nextContext ctx t (tickAfter s ctx.timeout)) (r := r) hc rfl rfl rfl rfl ?_).of_eq hv.symm
      intro hm
      simp [nextContext, hnl hm, hdn]
    split
    · next hlast =>
      unfold endRecord
      split
      · next hm =>
        have hcu : (channelOfState (storeTimestamp c ctx t s) c).context = some (nextContext ctx t (tickAfter s ctx.timeout)) :=
          (congrArg (fun v => v.context c) hv).trans (if_pos rfl)
        have hsu : (channelOfState (storeTimestamp c ctx t s) c).state = .capturing :=
          (congrArg (fun v => v.state c) hv).trans hs
        have := completeSingle_fits (move (by simp [hm])) hcu hsu hm
        exact this
      · next hm => exact reportFull_fits h hc hs hm hlast
    · next hnl => exact move (fun _ => by simpa using hnl)
  · exact failCapture_fits h hc

/-- An open context is that of a CAPTURING channel that awaits an edge (R16, R28). -/
theorem openContext_some {s : State} {c : ChannelId} {ctx : CaptureContext} (h : openContext s c = some ctx) :
    (channelOfState s c).context = some ctx ∧ (channelOfState s c).state = .capturing ∧ ctx.deadline.isSome = true := by
  unfold openContext at h
  dsimp only at h
  split at h
  · next hs => rw [Option.filter_eq_some_iff] at h; exact ⟨h.1, hs, h.2⟩
  · cases h

/-- A prescaler count is no part of the work (R16). -/
theorem viewOf_setCount (c : ChannelId) (n : Nat) (s : State) :
    viewOf (setChannel c { channelOfState s c with count := n } s) = viewOf s := by
  rw [viewOf_setChannel]
  have : ∀ d, (if d = c then channelOfState s c else channelOfState s d) = channelOfState s d := by grind
  simp only [viewOf, View.mk.injEq, true_and, and_true]
  refine ⟨?_, ?_, ?_⟩ <;> funext d <;> (try funext b) <;> split <;> first | rfl | (next hd => subst hd; rfl)

/-! ### Calibration -/

/-- Each BUSY section serves a CALIBRATING channel of its group. -/
def SectionsServe (s : State) : Prop :=
  ∀ g ctx, sectionOf s g = .busy ctx → groupOfChannel ctx.channel = g ∧ (channelOfState s ctx.channel).state = .calibrating

theorem ChannelsFit.sectionsServe {s : State} (h : ChannelsFit s) : SectionsServe s := by
  intro g ctx hb
  have hg := h.2.1 g ctx hb
  exact ⟨hg, ((h.1 ctx.channel).2.1).2 ⟨ctx, by rw [hg]; exact hb, rfl⟩⟩

theorem sectionContext_some {s : State} {g : Group} {ctx : SectionContext} (h : sectionContext s g = some ctx) :
    sectionOf s g = .busy ctx := by
  unfold sectionContext at h
  split at h
  · next c hc => cases h; exact hc
  · cases h

theorem viewOf_setState (c : ChannelId) (x : Channel) (s : State) (hx : x.context = (channelOfState s c).context)
    (h0 : x.bank0 = (channelOfState s c).bank0) (h1 : x.bank1 = (channelOfState s c).bank1) :
    viewOf (setChannel c x s) =
      { viewOf s with state := fun d => if d = c then x.state else (viewOf s).state d } := by
  rw [viewOf_setChannel]
  simp only [viewOf, View.mk.injEq, true_and, and_true]
  refine ⟨?_, ?_⟩ <;> funext d <;> (try funext b) <;> split
  · next hd => subst hd; exact hx
  · rfl
  · next hd => subst hd; simp only [bankOf, h0, h1]
  · rfl

theorem viewOf_setSame (c : ChannelId) (x : Channel) (s : State) (hs : x.state = (channelOfState s c).state)
    (hx : x.context = (channelOfState s c).context)
    (h0 : x.bank0 = (channelOfState s c).bank0) (h1 : x.bank1 = (channelOfState s c).bank1) :
    viewOf (setChannel c x s) = viewOf s := by
  rw [viewOf_setState c x s hx h0 h1, hs]
  simp only [viewOf, View.mk.injEq, true_and, and_true]
  funext d
  split
  · next hd => subst hd; rfl
  · rfl

theorem View.Fits.channelTo {s : State} (h : Works s) {c : ChannelId} {x : Channel}
    (hc : (channelOfState s c).state = .calibrating) (hst : x.state = .idle ∨ x.state = .calibrating)
    (hx : x.context = (channelOfState s c).context)
    (h0 : x.bank0 = (channelOfState s c).bank0) (h1 : x.bank1 = (channelOfState s c).bank1) :
    Works (setChannel c x s) := by
  refine (h.channelState c x.state ?_ hst).of_eq (viewOf_setState c x s hx h0 h1).symm
  exact h.no_context (by simp [show (viewOf s).state c = _ from hc])

/-- The end of a calibration keeps the work (R48, R49). -/
theorem endCalibration_fits {g : Group} {c : ChannelId} {record : CalRecord} {s : State} (h : Works s)
    (hc : (channelOfState s c).state = .calibrating) : Works (endCalibration g c record s) := by
  simp only [endCalibration, Works, viewOf_followIdle, viewOf_raise]
  have h' : Works (setSection g .free (setRecord c record s)) := h
  exact examine_fits (h'.channelTo hc (.inl rfl) rfl rfl rfl)

theorem SectionsServe.withView {s t : State} (h : SectionsServe s) (hv : viewOf t = viewOf s)
    (hs : ∀ g ctx, sectionOf t g = .busy ctx → ∃ ctx', sectionOf s g = .busy ctx' ∧ ctx'.channel = ctx.channel) :
    SectionsServe t := by
  intro g ctx hb
  obtain ⟨ctx', hb', e⟩ := hs g ctx hb
  rw [← e]
  exact ⟨(h g ctx' hb').1, (congrArg (fun v => v.state ctx'.channel) hv).trans (h g ctx' hb').2⟩

theorem toDueTick_sectionOf {c : ChannelId} {s t : State} (h : toDueTick c s = some t) (g : Group) :
    sectionOf t g = sectionOf s g := by
  unfold toDueTick at h
  split at h
  · cases h
  · split at h
    · cases h; unfold passTicks; split <;> rfl
    · cases h

theorem endCalSettling_fits {g : Group} {s : State} (h : Works s) : Works (endCalSettling g s) := by
  unfold endCalSettling
  split
  · exact h
  · split
    · split
      · next ht => exact h.of_eq (viewOf_toDueTick ht).symm
      · exact h
    · exact h

theorem viewOf_deliverCode (g : Group) (code : Byte) (s : State) : viewOf (deliverCode g code s) = viewOf s := by
  unfold deliverCode
  split
  · rfl
  · split <;> rfl

theorem deliverCode_serves {g : Group} {code : Byte} {s : State} (h : SectionsServe s) : SectionsServe (deliverCode g code s) := by
  refine h.withView (viewOf_deliverCode g code s) ?_
  intro k ctx hb
  unfold deliverCode at hb
  split at hb
  · exact ⟨ctx, hb, rfl⟩
  · next c hc =>
    split at hb
    · rw [sectionOf_setSection] at hb
      split at hb
      · next hk => subst hk; cases hb; exact ⟨c, sectionContext_some hc, rfl⟩
      · exact ⟨ctx, hb, rfl⟩
    · exact ⟨ctx, hb, rfl⟩

theorem endCodeDensity_fits {g : Group} {s : State} (h : Works s) (hs : SectionsServe s) :
    Works (endCodeDensity g s) := by
  unfold endCodeDensity
  split
  · exact h
  · next ctx hctx =>
    have hc := (hs g ctx (sectionContext_some hctx)).2
    split
    · split
      · exact endCalibration_fits h hc
      · refine View.Fits.channelTo (s := setSection g _ s) h hc (.inr rfl) rfl rfl rfl
    · exact h

theorem openFloorGate_fits {g : Group} {s : State} (h : Works s) : Works (openFloorGate g s) := by
  unfold openFloorGate
  split
  · exact h
  · split
    · split
      · next t ht =>
        exact h.of_eq ((viewOf_toDueTick ht).symm.trans (viewOf_setCount _ 0 (setSection g _ t)).symm)
      · exact h
    · exact h

theorem takeFloorEdge_fits {g : Group} {code : Byte} {s : State} (h : Works s) (hs : SectionsServe s) :
    Works (takeFloorEdge g code s) := by
  unfold takeFloorEdge
  split
  · exact h
  · next ctx hctx =>
    have hc := (hs g ctx (sectionContext_some hctx)).2
    split
    · dsimp only
      split
      · exact h
      · exact endCalibration_fits h hc
    · exact h

theorem expireFloorTimeout_fits {g : Group} {s : State} (h : Works s) (hs : SectionsServe s) :
    Works (expireFloorTimeout g s) := by
  unfold expireFloorTimeout
  split
  · exact h
  · next ctx hctx =>
    have hc := (hs g ctx (sectionContext_some hctx)).2
    split
    · split
      · next t ht =>
        have e := viewOf_toDueTick ht
        exact endCalibration_fits (h.of_eq e.symm) ((congrArg (fun v => v.state ctx.channel) e).trans hc)
      · exact h
    · exact h

theorem endFloorComputation_fits {g : Group} {s : State} (h : Works s) (hs : SectionsServe s) :
    Works (endFloorComputation g s) := by
  unfold endFloorComputation
  split
  · exact h
  · next ctx hctx =>
    split
    · exact endCalibration_fits h (hs g ctx (sectionContext_some hctx)).2
    · exact h

/-! ### Edges -/

theorem SectionsServe.passTicks {s : State} (h : SectionsServe s) (n : Nat) : SectionsServe (passTicks n s) := by
  unfold Machine.passTicks
  split
  · exact h
  · exact h

/-- A comparator edge keeps the work (R16, R17, R33). -/
theorem takeComparatorEdge_fits {c : ChannelId} {code : Byte} {s : State} (h : Works s) (hs : SectionsServe s) :
    Works (takeComparatorEdge c code s) := by
  unfold takeComparatorEdge
  split
  · next ctx hctx =>
    obtain ⟨hc, hst, hd⟩ := openContext_some hctx
    split
    · unfold takePrescaledEdge
      have e := viewOf_setCount c 0 s
      exact takeTimestamp_fits (h.of_eq e.symm) ((congrArg (fun v => v.context c) e).trans hc)
        ((congrArg (fun v => v.state c) e).trans hst) hd
    · exact h.of_eq (viewOf_setCount c _ s).symm
  · split
    · exact takeFloorEdge_fits (h.of_eq (viewOf_deliverCode _ _ _).symm) (deliverCode_serves hs)
    · exact h

theorem edgeAfter_fits {c : ChannelId} {ticks : Nat} {code : Byte} {s : State} (h : Works s) (hs : SectionsServe s) :
    Works (edgeAfter c ticks code s) := by
  unfold edgeAfter
  split
  · exact takeComparatorEdge_fits (h.of_eq (viewOf_passTicks ticks s).symm) (hs.passTicks ticks)
  · exact h

theorem floorEdgeAfter_fits {g : Group} {ticks : Nat} {code : Byte} {s : State} (h : Works s) (hs : SectionsServe s) :
    Works (floorEdgeAfter g ticks code s) := by
  unfold floorEdgeAfter
  split
  · split
    · exact takeFloorEdge_fits (h.of_eq (viewOf_passTicks ticks s).symm) (hs.passTicks ticks)
    · exact h
  · exact h

theorem expireEdgeTimeout_fits {c : ChannelId} {s : State} (h : Works s) : Works (expireEdgeTimeout c s) := by
  unfold expireEdgeTimeout
  split
  · exact h
  · next ctx hctx =>
    split
    · next t ht =>
      have e := viewOf_toDueTick ht
      exact failCapture_fits (h.of_eq e.symm) ((congrArg (fun v => v.context c) e).trans (openContext_some hctx).1)
    · exact h

/-! ### Reference loss -/

theorem releaseChannel_state (c d : ChannelId) (s : State) :
    (channelOfState (releaseChannel c s) d).state = (channelOfState s d).state ∨
      (channelOfState s d).context.isSome = true := by
  unfold releaseChannel
  dsimp only
  split
  · exact .inl rfl
  · next ctx hc =>
    rw [channelOfState_setChannel]
    split
    · next hd => subst hd; exact .inr (by rw [hc]; rfl)
    · exact .inl rfl

theorem releaseChannel_context (c d : ChannelId) (s : State) (h : (channelOfState (releaseChannel c s) d).context.isSome = true) :
    (channelOfState s d).context.isSome = true := by
  unfold releaseChannel at h
  dsimp only at h
  split at h
  · exact h
  · next ctx hc =>
    rw [channelOfState_setChannel] at h
    split at h
    · cases h
    · exact h

theorem stopCapture_state (c d : ChannelId) (mode : Mode) (s : State) :
    (channelOfState (stopCapture c mode s) d).state = (channelOfState s d).state ∨
      (channelOfState s d).context.isSome = true := by
  cases mode with
  | single => exact releaseChannel_state c d s
  | paired =>
    rcases releaseChannel_state (highChannel (groupOfChannel c)) d (releaseChannel (lowChannel (groupOfChannel c)) s) with h | h
    · rcases releaseChannel_state (lowChannel (groupOfChannel c)) d s with h' | h'
      · exact .inl (h.trans h')
      · exact .inr h'
    · exact .inr (releaseChannel_context _ _ _ h)

theorem loseCapture_serves {s : State} (h : Works s) (hs : SectionsServe s) (c : ChannelId) :
    SectionsServe (loseCapture s c) := by
  unfold loseCapture
  split
  · exact hs
  · next ctx hc =>
    intro g x hb
    have hb' : sectionOf s g = .busy x := by simpa [sectionOf] using hb
    refine ⟨(hs g x hb').1, ?_⟩
    have e : (channelOfState (endJob ctx.job .refLost (stopCapture c ctx.mode s)) x.channel).state =
        (channelOfState (stopCapture c ctx.mode s) x.channel).state := by simp [channelOfState]
    rw [e]
    rcases stopCapture_state c x.channel ctx.mode s with h' | h'
    · exact h'.trans (hs g x hb').2
    · exact absurd ((h.working x.channel).1 h') (by simp [show (viewOf s).state x.channel = _ from (hs g x hb').2])

theorem loseCalibration_fits {s : State} (h : Works s) (hs : SectionsServe s) (c : ChannelId) :
    Works (loseCalibration s c) ∧ SectionsServe (loseCalibration s c) := by
  unfold loseCalibration
  split
  · exact ⟨h, hs⟩
  · dsimp only
    split
    · next ctx hb =>
      split
      · next hctx =>
        subst hctx
        have hc := (hs _ ctx hb).2
        have h' : Works (setSection (groupOfChannel ctx.channel) .free
          (setRecord ctx.channel (.failed .refLost (lostSpan ctx) none) s)) := h
        refine ⟨h'.channelTo hc (.inl rfl) rfl rfl rfl, ?_⟩
        intro g x hx
        have hx' : sectionOf s g = .busy x ∧ g ≠ groupOfChannel ctx.channel := by
          have := sectionOf_setSection (groupOfChannel ctx.channel) g .free s
          have e : sectionOf (setSection (groupOfChannel ctx.channel) .free s) g = .busy x := hx
          rw [this] at e
          split at e
          · cases e
          · next hne => exact ⟨e, fun k => hne k.symm⟩
        have hg := (hs g x hx'.1).1
        refine ⟨hg, ?_⟩
        have e : ∀ y : Channel,
            (channelOfState (setChannel ctx.channel y s) x.channel).state = (channelOfState s x.channel).state := by
          intro y
          rw [channelOfState_setChannel, if_neg]
          intro e
          rw [← e] at hg
          exact hx'.2 hg.symm
        exact (e _).trans (hs g x hx'.1).2
      · exact ⟨h, hs⟩
    · exact ⟨h, hs⟩
  · exact ⟨h, hs⟩
  · exact ⟨h, hs⟩

/-- A reference loss keeps the work: it ends captures with their jobs, and calibrations (R31, R52). -/
theorem referenceLoss_fits {s : State} (h : Works s) (hs : SectionsServe s) : Works (referenceLoss s) := by
  have captures : ∀ (order : List ChannelId) (u : State), Works u → SectionsServe u →
      Works (order.foldl loseCapture u) ∧ SectionsServe (order.foldl loseCapture u) := by
    intro order
    induction order with
    | nil => exact fun u hu hv => ⟨hu, hv⟩
    | cons c order ih => exact fun u hu hv => ih _ (loseCapture_fits hu c) (loseCapture_serves hu hv c)
  have calibrations : ∀ (order : List ChannelId) (u : State), Works u → SectionsServe u →
      Works (order.foldl loseCalibration u) := by
    intro order
    induction order with
    | nil => exact fun u hu _ => hu
    | cons c order ih => exact fun u hu hv => ih _ (loseCalibration_fits hu hv c).1 (loseCalibration_fits hu hv c).2
  simp only [referenceLoss, Works, viewOf_followIdle, viewOf_raise]
  have hc := captures (lossSequence s.freeIndex) { s with freeIndex := s.freeIndex + 1 } h hs
  exact calibrations _ _ hc.1 hc.2

theorem endGate_fits {edges : Nat} {s : State} (h : Works s) (hs : SectionsServe s) : Works (endGate edges s) := by
  unfold endGate
  dsimp only
  split
  · exact referenceLoss_fits h hs
  · split
    · rw [lockEvent, Works, viewOf_followIdle]
      exact examineBoth_fits h
    · exact h

theorem reportUnlock_fits {s : State} (h : Works s) (hs : SectionsServe s) : Works (reportUnlock s) := by
  unfold reportUnlock
  dsimp only
  split
  · exact referenceLoss_fits h hs
  · exact h

/-! ### Acceptance -/

/-- When every value tried is held, all of them are (R62). -/
theorem freeIdFrom_mem (live : List Nat) :
    ∀ (n id : Nat), freeIdFrom live n id ∈ live → ∀ k < n, advanceId^[k] id ∈ live := by
  intro n
  induction n with
  | zero => exact fun _ _ k hk => absurd hk (by omega)
  | succ n ih =>
    intro id h k hk
    rw [freeIdFrom] at h
    split at h
    · next hc =>
      cases k with
      | zero => simpa using hc
      | succ k => exact ih _ h k (by omega)
    · next hc => exact absurd (by simpa using h) hc

/-- The values tried, one after another (R62). -/
theorem advanceId_iterate {id : Nat} (h1 : 1 ≤ id) (h2 : id ≤ 65535) : ∀ k ≤ 16, advanceId^[k] id =
    if id + k ≤ 65535 then id + k else id + k - 65535 := by
  intro k
  induction k with
  | zero => intro _; simp [h2]
  | succ k ih =>
    intro hk
    rw [Function.iterate_succ_apply', ih (by omega)]
    unfold advanceId
    split <;> split <;> split <;> omega

/-- With a site free at most fifteen jobs are live (R58). -/
theorem liveJobs_length {s : State} {site : Site} (h : jobAt s site = none) : (liveJobs s).length ≤ 15 := by
  rw [liveJobs_eq]
  have := (List.length_filterMap_lt_length_iff_exists (f := jobAt s) (xs := List.finRange 16)).2
    ⟨site, List.mem_finRange site, h⟩
  simp at this
  omega

/-- The id an accepted job takes is no live job's (R62). -/
theorem assignedId_fresh {s : State} {site : Site} (h : jobAt s site = none) (h1 : 1 ≤ s.jobCounter)
    (h2 : s.jobCounter ≤ 65535) :
    ∀ i l, jobAt s i = some l → l.id ≠ assignedId s := by
  intro i l hl he
  have hm : assignedId s ∈ (liveJobs s).map (·.id) := by
    rw [← he]
    exact List.mem_map_of_mem (mem_liveJobs.2 ⟨i, hl⟩)
  have ha := freeIdFrom_mem _ 16 s.jobCounter hm
  have hsub : (List.range 16).map (fun k => advanceId^[k] s.jobCounter) ⊆ (liveJobs s).map (·.id) := by
    intro x hx
    obtain ⟨k, hk, rfl⟩ := List.mem_map.1 hx
    exact ha k (List.mem_range.1 hk)
  have hnd : ((List.range 16).map (fun k => advanceId^[k] s.jobCounter)).Nodup := by
    refine List.Nodup.map_on ?_ List.nodup_range
    intro x hx y hy e
    rw [advanceId_iterate h1 h2 x (by have := List.mem_range.1 hx; omega),
      advanceId_iterate h1 h2 y (by have := List.mem_range.1 hy; omega)] at e
    have := List.mem_range.1 hx
    have := List.mem_range.1 hy
    split at e <;> split at e <;> omega
  have := (List.subperm_of_subset hnd hsub).length_le
  have hl := liveJobs_length h
  simp at this
  omega

/-- What an accepted draft holds for the work (R55, R56, R61). -/
theorem draftJob_spec {f : JobFields} {j : Job} (h : draftJob f = .ok j) :
    (j.state = .held ∨ j.state = .queued) ∧ j.channels = [] ∧
      ∀ c, j.choice = some c → groupOfChannel c = groupOfSite j.site := by
  have acc : ∀ {α : Type} (n : Nat) (v : Option α) {x : α}, accept n v = .ok x → v = some x := by
    intro α n v x hx
    cases v with
    | none => cases hx
    | some y => cases hx; rfl
  have bnd : ∀ {α β : Type} {m : Except Nat α} {k : α → Except Nat β} {y : β},
      (m >>= k) = .ok y → ∃ x, m = .ok x ∧ k x = .ok y := by
    intro α β m k y hy
    cases m with
    | error e => cases hy
    | ok x => exact ⟨x, rfl, hy⟩
  unfold draftJob at h
  obtain ⟨site, _, h⟩ := bnd h
  obtain ⟨mode, _, h⟩ := bnd h
  obtain ⟨choice, hch, h⟩ := bnd h
  obtain ⟨fNom, _, h⟩ := bnd h
  obtain ⟨req, _, h⟩ := bnd h
  obtain ⟨len, _, h⟩ := bnd h
  obtain ⟨sp, _, h⟩ := bnd h
  obtain ⟨ex, _, h⟩ := bnd h
  obtain ⟨ba, _, h⟩ := bnd h
  obtain ⟨so, _, h⟩ := bnd h
  obtain ⟨tr, _, h⟩ := bnd h
  obtain ⟨se, _, h⟩ := bnd h
  obtain ⟨fc, _, h⟩ := bnd h
  obtain ⟨li, _, h⟩ := bnd h
  cases h
  refine ⟨?_, rfl, ?_⟩
  · cases tr <;> simp [acceptedState]
  · intro c hc
    have := acc _ _ hch
    simp only at hc
    subst hc
    unfold choiceOf at this
    split at this
    · cases this
    · split at this
      · split at this
        · next hg => cases this; exact hg
        · cases this
      · cases this

theorem viewOf_raiseInUse (j : Job) (s : State) : viewOf (raiseInUse j s) = viewOf s := by
  unfold raiseInUse; split <;> rfl

theorem acceptJob_fits {j : Job} {s : State} (h : Works s) (hn : jobAt s j.site = none)
    (fresh : ∀ i l, jobAt s i = some l → l.id ≠ j.id) (hs : j.state = .held ∨ j.state = .queued) (hc : j.channels = [])
    (hch : ∀ c, j.choice = some c → groupOfChannel c = groupOfSite j.site) : Works (acceptJob j s) := by
  refine (h.accept j hn fresh hs hc hch).of_eq ?_
  simp only [acceptJob, viewOf_setQueue, viewOf_setJob]
  rw [viewOf_raiseInUse]
  have hq : queueOf (setJob j.site (some j) (raiseInUse j { s with jobCounter := advanceId j.id })) (groupOfSite j.site) =
      queueOf s (groupOfSite j.site) := by
    unfold raiseInUse; split <;> rfl
  simp only [View.mk.injEq]
  refine ⟨rfl, ?_, rfl, rfl, rfl, rfl, rfl, rfl⟩
  funext g
  split
  · next hg => subst hg; rw [hq]; rfl
  · rfl

/-- JOB_SUBMIT keeps the work (R61, R66). -/
theorem serveJobSubmit_fits {f : JobFields} {s : State} (h : Works s) (h1 : 1 ≤ s.jobCounter)
    (h2 : s.jobCounter ≤ 65535) : Works (serveJobSubmit f s).2 := by
  unfold serveJobSubmit
  split
  · exact h
  · next draft hd =>
    split
    · exact h
    · next hf =>
      dsimp only
      rw [Works, viewOf_followIdle]
      obtain ⟨d1, d2, d3⟩ := draftJob_spec hd
      have hn : jobAt s draft.site = none := by
        unfold submissionFault at hf
        split at hf
        · cases hf
        · next hi => simpa using hi
      exact examine_fits (acceptJob_fits h hn (assignedId_fresh hn h1 h2) d1 d2 d3)

/-- CALIBRATE keeps the work (R39). -/
theorem serveCalibrate_fits {b : Byte} {s : State} (h : Works s) : Works (serveCalibrate b s).2 := by
  unfold serveCalibrate
  split
  · exact h
  · next c hc =>
    dsimp only
    split
    · exact h
    · next hq =>
      dsimp only
      rw [Works, viewOf_followIdle]
      refine examine_fits ?_
      refine (h.queueCalibration (groupOfChannel c) c ?_).of_eq ?_
      · intro hm
        simp only [Bool.or_eq_true, not_or] at hq
        exact hq.1 (by rw [calibrationQueued, List.any_eq_true]; exact ⟨_, hm, by simp⟩)
      · rw [viewOf_setQueue]
        simp only [View.mk.injEq, true_and, and_true]
        funext g
        split
        · next hg => subst hg; rfl
        · rfl

theorem viewOf_serveChannelConfig (a : Byte) (b : BitVec 16) (c d : Byte) (s : State) :
    viewOf (serveChannelConfig a b c d s).2 = viewOf s := by
  unfold serveChannelConfig
  split <;> try rfl
  split
  · rfl
  · dsimp only
    split
    · exact viewOf_setSame _ _ _ rfl rfl rfl rfl
    · rw [viewOf_setRecord]
      exact viewOf_setSame _ _ _ rfl rfl rfl rfl

/-! ### Cancel -/

/-- The end of a job whose item waits keeps the work (R94). -/
theorem dropItem_end_fits {j : Job} {status : Ending} {s : State} (h : Works s) (hj : jobAt s j.site = some j)
    (hs : j.state = .analysisWait) : Works (endJob j.id status (dropItem j.id s)) := by
  have hn : Named (dropItem j.id s) := h.named.congr (by simp)
  rw [Works, viewOf_endJob hn (i := j.site) (j := j) (by rw [jobAt, dropItem_jobs]; exact hj) rfl]
  obtain ⟨item, hi, hid⟩ := h.waitItem j.site j hj hs
  unfold dropItem
  cases hf : s.analysisQueue.find? fun item => item.job == j.id with
  | none =>
    rw [List.find?_eq_none] at hf
    exact absurd (by simp [hid]) (hf item hi)
  | some found =>
    have hfi : found ∈ s.analysisQueue := List.mem_of_find?_eq_some hf
    have hfj : found.job = j.id := by simpa using List.find?_some hf
    refine (h.endItem hj hs hfi hfj).of_eq ?_
    rw [viewOf_freeItemBanks]
    rfl

/-- The end of the job the engine works on keeps the work (R95). -/
theorem abandonItem_end_fits {j : Job} {status : Ending} {s : State} (h : Works s) (hj : jobAt s j.site = some j)
    (hs : j.state = .analysing) : Works (endJob j.id status (takeItem (abandonItem s))) := by
  obtain ⟨item, hi, hid⟩ := h.engineItem j.site j hj hs
  have hi : engineItem s.engine = some item := hi
  have hb := h.endEngine hj hi hid
  have ha : abandonItem s = freeItemBanks item (setEngine .idle s) := by unfold abandonItem; rw [hi]
  have hna : Named (abandonItem s) := h.named.congr (by simp)
  have hja : jobAt (abandonItem s) j.site = some j := by rw [jobAt, abandonItem_jobs]; exact hj
  have hva := viewOf_freeItemBanks item (setEngine .idle s)
  rw [← ha, viewOf_setEngine] at hva
  have hqa : (abandonItem s).analysisQueue = s.analysisQueue := by simp
  have hea : (abandonItem s).engine = .idle := by rw [ha]; simp [setEngine]
  unfold takeItem
  rw [hea, hqa]
  cases hq : s.analysisQueue with
  | nil =>
    rw [Works, viewOf_endJob hna hja rfl, hva]
    exact hb
  | cons next rest =>
    have hw : (viewOf s).waiting = next :: rest := hq
    have hb' := hb.takeItem (item := next) (rest := rest) rfl hw
    have hnext : next.job ≠ j.id := by
      have := h.itemIds
      have e : (viewOf s).engine = some item := hi
      simp [View.items, e, hw, hid] at this
      exact fun e => this.1.1 e.symm
    let u : State := { abandonItem s with analysisQueue := rest, engine := .timePass next emptyWorking }
    have hn2 : Named u := hna.congr rfl
    have hv2 : viewOf (setJobState next.job .analysing u) = _ := viewOf_updateJob hn2 next.job _
    have hjobs : ∀ i, jobAt (setJobState next.job .analysing u) i = _ := congrFun (congrArg View.jobs hv2)
    have hn3 : Named (setJobState next.job .analysing u) := by
      have h2 := hna
      unfold Named at *
      simp only [hjobs, Option.map_eq_some_iff]
      have : ∀ i, (viewOf u).jobs i = jobAt (abandonItem s) i := fun _ => rfl
      simp only [this]
      grind
    have hj3 : jobAt (setJobState next.job .analysing u) j.site = some j := by
      refine (hjobs j.site).trans ?_
      show Option.map _ (jobAt (abandonItem s) j.site) = _
      rw [hja]
      simp [hnext.symm]
    dsimp only
    rw [Works, viewOf_endJob hn3 hj3 rfl]
    refine hb'.of_eq ?_
    have hv4 : viewOf u = { viewOf (abandonItem s) with waiting := rest, engine := some next } := rfl
    rw [hv2, hv4, hva]
    simp only [View.mk.injEq, and_true]
    funext i
    split <;> rfl

/-- A cancelled job leaves no work (R78). -/
theorem cancelJob_fits {j : Job} {s : State} (h : Works s) (hj : jobAt s j.site = some j) :
    Works (cancelJob j s) := by
  rw [cancelJob, Works, viewOf_followIdle]
  refine examine_fits ?_
  have waiting : j.state = .held ∨ j.state = .queued → Works (endJob j.id .cancelled (removeEntry j s)) := by
    intro hs
    have hn : Named (removeEntry j s) := h.named
    rw [Works, viewOf_endJob hn (i := j.site) (j := j) hj rfl]
    refine (h.endWaiting hj hs).of_eq ?_
    simp only [removeEntry, viewOf_setQueue, View.mk.injEq, true_and, and_true]
    funext g
    split
    · next hg => subst hg; rfl
    · rfl
  have capture : j.state = .settling ∨ j.state = .capturing → Works (endJob j.id .cancelled (stopJobCapture j s)) := by
    intro hs
    have hne : ¬(j.state = .held ∨ j.state = .queued) := by grind
    obtain ⟨c, tail, hcs⟩ : ∃ c tail, j.channels = c :: tail := by
      cases hm : j.mode with
      | single => obtain ⟨c, _, e⟩ := h.single j.site j hj hne hm; exact ⟨c, [], e⟩
      | paired => exact ⟨_, _, h.paired j.site j hj hne hm⟩
    obtain ⟨ctx, hc, hcj, hcs'⟩ := h.captured j.site j c hj hs (by simp [hcs])
    obtain ⟨j', hj', _, hm', _⟩ := h.held c ctx hc
    rw [hcs'] at hj'
    have hj' : jobAt s j.site = some j' := hj'
    rw [hj] at hj'
    cases hj'
    simp only [stopJobCapture, hcs]
    rw [← hcj, hm']
    exact endCapture_fits h hc
  unfold cancelWork
  split
  · next hs => exact waiting (.inl hs)
  · next hs => exact waiting (.inr hs)
  · next hs => exact capture (.inl hs)
  · next hs => exact capture (.inr hs)
  · next hs => exact dropItem_end_fits h hj hs
  · next hs => exact abandonItem_end_fits h hj hs

theorem serveJobCancel_fits {b : Byte} {s : State} (h : Works s) : Works (serveJobCancel b s).2 := by
  unfold serveJobCancel
  split
  · exact h
  · next site _ =>
    split
    · exact h
    · next j hj =>
      obtain rfl := h.home site j hj
      exact cancelJob_fits h hj

/-! ### The engine -/

theorem afterTimePass_item (item : Item) (j : Job) (r : Option (List Timestamp × Option (List Timestamp) × Bool)) :
    engineItem (afterTimePass item j r) = some item := by
  unfold afterTimePass
  split
  · rfl
  · dsimp only
    split
    · rfl
    · unfold afterTimeFigures
      split
      · rfl
      · split <;> rfl

theorem viewOf_setEngine_same {e : Engine} {s : State} (h : engineItem e = engineItem s.engine) :
    viewOf (setEngine e s) = viewOf s := by
  rw [viewOf_setEngine, h]; rfl

theorem viewOf_endTimePass (s : State) : viewOf (endTimePass s) = viewOf s := by
  unfold endTimePass
  split
  · next item w he =>
    split
    · exact viewOf_setEngine_same (by rw [afterTimePass_item, he]; rfl)
    · rfl
  · rfl

theorem viewOf_finishSegments (n : Nat) (s : State) : viewOf (finishSegments n s) = viewOf s := by
  unfold finishSegments
  split
  · next he =>
    split
    · exact viewOf_setEngine_same (by rw [he]; rfl)
    · rfl
  · rfl

theorem viewOf_formSpectral (s : State) : viewOf (formSpectral s) = viewOf s := by
  unfold formSpectral
  split
  · next he =>
    split
    · exact viewOf_setEngine_same (by rw [he]; rfl)
    · rfl
  · rfl

theorem viewOf_endSpectralPass (s : State) : viewOf (endSpectralPass s) = viewOf s := by
  rw [endSpectralPass, viewOf_formSpectral, viewOf_finishSegments]

/-- The posting of an item keeps the work (R93). -/
theorem enginePost_fits {s : State} (h : Works s) : Works (enginePost s) := by
  unfold enginePost
  split
  · next item w he =>
    split
    · next j hj =>
      obtain ⟨hid, i, hi⟩ := jobWithId_some hj
      obtain rfl := h.home i j hi
      have hv : (viewOf s).engine = some item := by simp only [viewOf, he]; rfl
      simp only [postItem, Works, viewOf_followIdle]
      refine examine_fits (takeItem_fits ((h.endEngine hi hv hid.symm).of_eq ?_))
      rw [viewOf_setEngine, viewOf_finishJob, viewOf_freeItemBanks]
      rfl
    · exact h
  · exact h

/-! ### The trigger -/

/-- A taken trigger keeps the work (R75). -/
theorem takeTrigger_fits {s : State} (h : Works s) : Works (takeTrigger s) := by
  rw [takeTrigger, Works, viewOf_followIdle]
  refine examineBoth_fits (h.release.of_eq ?_)
  simp only [viewOf, View.mk.injEq]
  refine ⟨?_, rfl, rfl, rfl, rfl, rfl, rfl, rfl⟩
  funext i
  simp [jobAt]

theorem completeQualification_fits {s : State} (h : Works s) : Works (completeQualification s) := by
  unfold completeQualification
  dsimp only
  split
  · exact takeTrigger_fits h
  · exact h

theorem qualifiedEdge_fits {s : State} (h : Works s) : Works (qualifiedEdge s) := by
  unfold qualifiedEdge
  split
  · exact completeQualification_fits h
  · exact h

theorem senseTrigger_fits {level : Level} {s : State} (h : Works s) : Works (senseTrigger level s) := by
  unfold senseTrigger
  split
  · exact h
  · split
    · unfold countPeriod
      split
      · exact h
      · split
        · exact completeQualification_fits h
        · exact h
    · exact h

theorem triggerLineChange_fits {level : Level} {s : State} (h : Works s) :
    Works (triggerLineChange level s) := by
  unfold triggerLineChange
  split
  · exact h
  · exact senseTrigger_fits h

/-! ### Resets -/

/-- With no live job there is no work. -/
theorem View.Fits.ofEmpty {v : View} (hj : ∀ i, v.jobs i = none) (hq : ∀ g, v.queues g = []) (hs : ∀ c, v.state c = .idle)
    (hc : ∀ c, v.context c = none) (hb : ∀ c b, v.bank c b = { state := .free, record := [] }) (hp : ∀ g, v.pair g = .idle)
    (hw : v.waiting = []) (he : v.engine = none) : v.Fits := by
  constructor <;> simp [hj, hq, hs, hc, hb, hp, hw, he, View.items]

theorem resetBlocks_fits (link : Link) (s : State) : Works (resetBlocks link s) := by
  have hch : ∀ c, channelOfState (resetBlocks link s) c = Channel.afterReset (channelOfState s c).config := by
    intro c; simp [channelOfState, resetBlocks]
  refine View.Fits.ofEmpty (fun i => ?_) (fun g => ?_) (fun c => ?_) (fun c => ?_) (fun c b => ?_) (fun g => ?_) rfl rfl
  · simp [viewOf, jobAt, resetBlocks]
  · cases g <;> rfl
  · simp only [viewOf, hch]; rfl
  · simp only [viewOf, hch]; rfl
  · simp only [viewOf, hch, bankOf]; split <;> rfl
  · cases g <;> rfl

theorem detectBreak_fits {s : State} (h : Works s) : Works (detectBreak s) := by
  unfold detectBreak
  split
  · exact resetBlocks_fits _ s
  · exact h

theorem senseReceiveLine_fits {level : Level} {s : State} (h : Works s) : Works (senseReceiveLine level s) := by
  unfold senseReceiveLine
  split
  · exact h
  · unfold countLowPeriod
    dsimp only
    split
    · exact detectBreak_fits h
    · exact h

theorem powerOn_fits (r t : Level) (x : Option Int) (s : State) : Works (powerOn r t x s) := by
  refine View.Fits.ofEmpty (fun i => ?_) (fun g => ?_) (fun c => ?_) (fun c => ?_) (fun c b => ?_) (fun g => ?_) rfl rfl
  · exact (by decide : ∀ i, jobAt State.reset i = none) i
  · cases g <;> rfl
  · exact (by decide : ∀ c, (channelOfState State.reset c).state = .idle) c
  · exact (by decide : ∀ c, (channelOfState State.reset c).context = none) c
  · exact (by decide : ∀ c b, bankOf (channelOfState State.reset c) b = { state := .free, record := [] }) c b
  · cases g <;> rfl

/-! ### Requests -/

theorem viewOf_serveLimitExtent (a : Byte) (s : State) : viewOf (serveLimitExtent a s).2 = viewOf s := by
  unfold serveLimitExtent; (repeat' split) <;> rfl

theorem viewOf_serveLimitWrite (a : LimitFields) (s : State) : viewOf (serveLimitWrite a s).2 = viewOf s := by
  unfold serveLimitWrite; (repeat' split) <;> rfl

theorem viewOf_serveLimitRead (a : Byte) (s : State) : viewOf (serveLimitRead a s).2 = viewOf s := by
  unfold serveLimitRead; (repeat' split) <;> rfl

theorem viewOf_serveLimitDelete (a : Byte) (s : State) : viewOf (serveLimitDelete a s).2 = viewOf s := by
  unfold serveLimitDelete; (repeat' split) <;> rfl

theorem viewOf_serveLimitProbe (a b c d : Byte) (e : BitVec 32) (s : State) : viewOf (serveLimitProbe a b c d e s).2 = viewOf s := by
  unfold serveLimitProbe; (repeat' split) <;> rfl

theorem viewOf_serveLotOpen (a : BitVec 32) (s : State) : viewOf (serveLotOpen a s).2 = viewOf s := by
  unfold serveLotOpen; (repeat' split) <;> rfl

theorem viewOf_serveJobStatus (a : Byte) (s : State) : viewOf (serveJobStatus a s).2 = viewOf s := by
  unfold serveJobStatus; (repeat' split) <;> rfl

theorem viewOf_serveTriggerConfig (a : Byte) (s : State) : viewOf (serveTriggerConfig a s).2 = viewOf s := by
  unfold serveTriggerConfig; (repeat' split) <;> rfl

theorem viewOf_serveResultNext (s : State) : viewOf (serveResultNext s).2 = viewOf s := by
  unfold serveResultNext; (repeat' split) <;> rfl

theorem viewOf_serveResultRead (a : Byte) (s : State) : viewOf (serveResultRead a s).2 = viewOf s := by
  unfold serveResultRead; (repeat' split) <;> rfl

theorem viewOf_clearSlots (sites : List Site) (s : State) : viewOf (sites.foldl clearSlot s) = viewOf s := by
  induction sites generalizing s with
  | nil => rfl
  | cons site sites ih => exact (ih (clearSlot s site)).trans rfl

theorem viewOf_serveResultClear (a : Byte) (s : State) : viewOf (serveResultClear a s).2 = viewOf s := by
  unfold serveResultClear
  split
  · rfl
  · exact viewOf_clearSlots _ s

theorem viewOf_serveNoticeEnable (a b c d e : Byte) (s : State) : viewOf (serveNoticeEnable a b c d e s).2 = viewOf s := by
  unfold serveNoticeEnable; (repeat' split) <;> rfl

theorem viewOf_serveNoticeClear (a : Byte) (s : State) : viewOf (serveNoticeClear a s).2 = viewOf s := by
  unfold serveNoticeClear; (repeat' split) <;> rfl

theorem viewOf_serveCalRead (a : Byte) (s : State) : viewOf (serveCalRead a s).2 = viewOf s := by
  unfold serveCalRead; (repeat' split) <;> rfl

/-- The job id counter stands within its range (R62). -/
def CounterFits (s : State) : Prop := 1 ≤ s.jobCounter ∧ s.jobCounter ≤ 65535

/-- Every request keeps the work (R176). -/
theorem serveRequest_fits {r : Request} {s : State} (h : Works s) (hc : CounterFits s) :
    Works (serveRequest r s).2 := by
  unfold serveRequest
  split
  case h_4 => exact serveCalibrate_fits h
  case h_12 => exact serveJobSubmit_fits h hc.1 hc.2
  case h_14 => exact serveJobCancel_fits h
  all_goals refine h.of_eq (Eq.symm ?_)
  all_goals first
    | rfl
    | apply viewOf_serveChannelConfig
    | apply viewOf_serveCalRead
    | apply viewOf_serveLimitExtent
    | apply viewOf_serveLimitWrite
    | apply viewOf_serveLimitRead
    | apply viewOf_serveLimitDelete
    | apply viewOf_serveLimitProbe
    | apply viewOf_serveLotOpen
    | apply viewOf_serveJobStatus
    | apply viewOf_serveTriggerConfig
    | apply viewOf_serveResultNext
    | apply viewOf_serveResultRead
    | apply viewOf_serveResultClear
    | apply viewOf_serveNoticeEnable
    | apply viewOf_serveNoticeClear

/-! ### The link -/

theorem serveFrame_fits {f : Frame} {s : State} (h : Works s) (hc : CounterFits s) : Works (serveFrame f s) := by
  unfold serveFrame
  split
  · exact h
  · exact serveRequest_fits h hc

theorem serverTakes_fits {s : State} (h : Works s) (hc : CounterFits s) : Works (serverTakes s) := by
  unfold serverTakes
  split
  · split
    · exact serveFrame_fits (s := setLink _ s) h hc
    · exact h
  · exact h

theorem receiveFrame_fits {f : Frame} {s : State} (h : Works s) (hc : CounterFits s) : Works (receiveFrame f s) := by
  unfold receiveFrame
  split
  · unfold offerFrame
    split
    · exact h
    · split
      · exact serverTakes_fits h hc
      · split
        · exact h
        · exact h
  · exact h

theorem receiveByte_fits {b : Byte} {level : Level} {s : State} (h : Works s) (hc : CounterFits s) :
    Works (receiveByte b level s) := by
  unfold receiveByte
  split
  · unfold deliverByte
    split
    · split
      · exact h
      · exact h
    · exact h
    · split
      · exact h
      · exact h
    · split
      · exact receiveFrame_fits h hc
      · exact h
  · exact h

theorem viewOf_startTransmission (s : State) : viewOf (startTransmission s) = viewOf s := by
  unfold startTransmission chooseAfterFaults sendServerReply
  (repeat' split) <;> rfl

theorem endTransmission_fits {s : State} (h : Works s) (hc : CounterFits s) : Works (endTransmission s) := by
  unfold endTransmission
  split
  · exact h
  · exact h
  · dsimp only
    split
    · unfold endServerReply
      split
      · exact h
      · exact serverTakes_fits h hc
      · exact resetBlocks_fits _ _
    · exact h
    · exact h

/-! ### The part's own events -/

/-- Every event of the part's own clocks keeps the work (log 5). -/
theorem idleEvent_fits {e : IdleEvent} {s : State} (h : Works s) (hs : SectionsServe s) : Works (idleEvent e s) := by
  unfold idleEvent
  split
  · exact h
  · unfold idleTick
    split
    · exact h.of_eq (viewOf_passTicks 1 s).symm
    · exact h
  · unfold idleDue
    split
    · unfold channelEvent
      split
      · exact h
      · exact endSettling_fits h
      · exact expireEdgeTimeout_fits h
      · unfold passEvent
        split
        · exact h
        · split
          · exact endCalSettling_fits h
          · exact openFloorGate_fits h
          · exact expireFloorTimeout_fits h hs
    · exact h
  · exact senseReceiveLine_fits (senseTrigger_fits h)
  · unfold idleSegment
    split
    · exact h.of_eq (viewOf_finishSegments 1 s).symm
    · exact h

end Sys2Proof.Machine
end

