-- ==== Sys2Proof/Tests/Slice0.lean ====
section
/-! SUPPORT. The model's own tests: ill-formed terms refused, worked figures of the manual, one small step for most commands,
and for each statement with hypotheses a state and operands that meet them. -/

namespace Sys2Proof.Tests

open Sys2Proof.Machine

set_option Elab.async false

/-! ### Small states -/

/-- A VALID calibration record. -/
def validRecord : CalRecord :=
  .valid 100 10 200 [] 300

/-- The part in LOCKED with every channel VALID. -/
def locked : State :=
  { State.reset with
    timebase := { State.reset.timebase with refState := .locked, multiplier := .lock, gateBegan := .lock, temperature := 100 }
    records := Vector.replicate 4 validRecord }

/-- A SINGLE job on site 3, with id 1. -/
def job : Job :=
  { id := 1, site := 3, hostTag := 0xCAFE, mode := .single, choice := none, fNom := 10000000, prescale := 1
    adjusted := false, length := 8, spectral := false, exponent := none, bands := [], spots := [], trigger := .immediate
    settle := 0, floorCorrection := true, limit := none, state := .queued, channels := [] }

/-- A PAIRED job on site 3, with id 1. -/
def pairedJob : Job :=
  { job with mode := .paired, floorCorrection := false }

/-- A live job of site 3. -/
def withJob (j : Job) (s : State) : State :=
  setJob 3 (some j) s

/-- The capture context of a job on a gate just opened. -/
def context (mode : Mode) : CaptureContext :=
  { job := 1, site := 3, mode, prescale := 1, fNom := 10000000, recordLength := 8, bank := 0, settlingEnd := 8000
    nextIndex := -2, previous := none, timeout := 160, deadline := some 160, snapshot := { floor := 300, stale := false } }

/-- A capture whose last timestamp was 0 and whose next index is the one given. -/
def midway (mode : Mode) (index : Int) : CaptureContext :=
  { context mode with nextIndex := index, previous := some 0 }

/-- A channel with a capture in the state given. -/
def withCapture (c : ChannelId) (state : ChannelState) (ctx : CaptureContext) (s : State) : State :=
  setChannel c
    { channelOfState s c with
      state, context := some ctx, selector := .site 3, bank0 := { state := .filling, record := [] } } s

/-- A SINGLE job capturing on channel 0. -/
def capturing (ctx : CaptureContext) : State :=
  withCapture 0 .capturing ctx (withJob { job with state := .capturing, channels := [0] } locked)

/-- A PAIRED job capturing on channels 0 and 1. -/
def pairCapturing (ctx0 ctx1 : CaptureContext) (pair : PairUnit) : State :=
  setPair .a pair (withCapture 0 .capturing ctx0 (withCapture 1 .capturing ctx1
    (withJob { pairedJob with state := .capturing, channels := [0, 1] } locked)))

/-- The working context of a calibration of channel 0. -/
def section0 : SectionContext :=
  { channel := 0, pass := .codeDensity, histogram := List.replicate 256 256, hits := 65536, spanLow := 0, spanHigh := 255
    table := [], timestamps := [], settlingEnd := 8000, settled := true, nextIndex := -2, previous := none, deadline := none }

/-- Channel 0 being calibrated. -/
def calibrating (ctx : SectionContext) : State :=
  setRecord 0 .running (setSection .a (.busy ctx)
    (setChannel 0 { channelOfState locked 0 with state := .calibrating, selector := .dither } locked))

/-- The fields of a JOB_SUBMIT that is accepted. -/
def fields : JobFields :=
  { site := 3, hostTag := 0xCAFE, mode := 0, choice := 0xFF, fNom := 10000000, prescale := 1, length := 8, spectral := 0
    exponent := none, bands := [], spots := [], trigger := 0, settle := 0, floorCorrection := 1, limit := none }

/-- The fields of a LIMIT_WRITE that is accepted. -/
def limitFields : LimitFields :=
  { index := 2, kind := 0, scope := 0, lot := none, fMin := 1000000, fMax := 1000000000, offsetMin := none
    offsetMax := none, tieRms := some 5000, tiePp := none, perRms := none, c2cRms := none, c2cPeak := none, band0 := none
    band1 := none, band2 := none, band3 := none, spot0 := none, spot1 := none, spot2 := none, spot3 := none, stale := 1
    passBin := 1, retestBin := 15, failBins := Vector.replicate 14 7 }

/-- The limit set those fields write. -/
def limitSet : LimitSet :=
  { kind := .time, lot := none, fMin := 1000000, fMax := 1000000000, offsetMin := none, offsetMax := none
    maxima := (Vector.replicate 13 none).set 0 (some 5000), stalePolicy := .retest, passBin := 1, retestBin := 15
    failBins := Vector.replicate 14 7 }

/-- The part with that limit set at index 2. -/
def limited : State :=
  { State.reset with limits := { State.reset.limits with entries := State.reset.limits.entries.set 2 (some limitSet) } }

/-- A result record of site 3. -/
def record : ResultRecord :=
  { job := 1, site := 3, hostTag := 0xCAFE, status := .complete, mode := .single, channels := [0], prescale := 1, length := 8
    segmentExponent := none, flags := {}, figures := noFigures, verdict := .nothing, failing := [], bin := none }

/-- The part with that record NEW. -/
def posted : State :=
  { State.reset with results := { slots := State.reset.results.slots.set 3 (.new record), completion := [3] } }

/-- Eight timestamps, 4,096 tu short of 40 periods of 10 MHz apart. -/
def timestamps : List Timestamp :=
  (List.range 8).map fun k => BitVec.ofNat 48 (k * 163840 + k * k % 3)

/-- The analysis item of that job. -/
def item : Item :=
  { job := 1, first := { channel := 0, bank := 0, snapshot := { floor := 300, stale := false } }, second := none }

/-- The analysis item of the paired job. -/
def pairItem : Item :=
  { item with second := some { channel := 1, bank := 0, snapshot := { floor := 300, stale := false } } }

/-- A bank of records with the engine in the state given. -/
def analysing (j : Job) (first second : List Timestamp) (engine : Engine) : State :=
  let s := withJob { j with state := .analysing, channels := [0] } locked
  let s := setChannel 0 { channelOfState s 0 with bank0 := { state := .full, record := first } } s
  setEngine engine (setChannel 1 { channelOfState s 1 with bank0 := { state := .full, record := second } } s)

/-! ### What is ill formed -/

/-- A frame of 1,025 payload bytes. -/
def longFrame : Frame :=
  { kind := 1, tag := 0, payload := List.replicate 1025 0, check := 0 }

theorem test_frameTooLong : (Instr.frameReceived longFrame).wellFormed = false := by decide +kernel

theorem test_faultFrameTooLong : (Instr.linkCheckFault longFrame).wellFormed = false := by decide +kernel

theorem test_jobTooManyBands :
    (Instr.jobSubmit 0 { fields with bands := List.replicate 256 (1, 2) }).wellFormed = false := by decide +kernel

theorem test_jobTooManySpots : (Instr.jobSubmit 0 { fields with spots := List.replicate 256 1 }).wellFormed = false := by
  decide +kernel

theorem test_jobTooLong : (Instr.jobSubmit 0 { fields with bands := List.replicate 125 (1, 2) }).wellFormed = false := by
  decide +kernel

theorem test_jobWellFormed : (Instr.jobSubmit 0 fields).wellFormed = true := by decide

theorem test_noWordSpellsACommand : decodeTableWord 16 0x5A01 = none := rfl

/-! ### Figures worked in the manual -/

/-- R172. -/
theorem test_crc : crc [49, 50, 51, 52, 53, 54, 55, 56, 57] = 10673 := by decide +kernel

/-- R13: ties go up, and both clamps. -/
theorem test_thresholds :
    [1204, 1205, -605, -606, 2600, -2000].map usedThreshold = [1200, 1210, -600, -610, 2500, -1000] := by decide +kernel

/-- R59. -/
theorem test_prescales :
    [usedPrescale 156250000 1, usedPrescale 1000000 4096, usedPrescale 50000000 1, usedPrescale 1000000000 1] =
      [4, 100, 1, 20] := by
  decide +kernel

/-- R26. -/
theorem test_timeouts : edgeTimeoutTicks 10000000 1 = 160 ∧ edgeTimeoutTicks 1000000000 1 = 4 := by decide +kernel

/-- R25: both ends of the window at 10 MHz pass, and one tu more or less fails. -/
theorem test_periodWindow :
    [122879, 122880, 204800, 204801].map (intervalPasses 10000000 1) = [false, true, true, false] := by decide +kernel

/-- R109: 1 su is 2 fs, 32,768 su are 78,125 fs, and the greatest figure saturates. -/
theorem test_femtoseconds :
    [linearFigure 1, linearFigure 32768] = [{ value := some 2 }, { value := some 78125 }] ∧
      linearFigure (10 ^ 10) = { value := some 4294967295, flags := { saturated := true } } := by
  decide +kernel

/-- R99: at 10 MHz an expected interval is 41,943,040 su; 4,199 su more are −100,102 ppb. -/
theorem test_offset : frequencyOffset 41947239 10000000 1 = -100102 := by decide +kernel

/-- R182: STATUS answers 396 bytes. -/
theorem test_statusLength : (0x00 :: statusBytes State.reset).length = 396 := by decide +kernel

/-- A tone of amplitude 1,024 su that completes one cycle in four samples, over two segments of eight. -/
def tone : List Int :=
  (List.replicate 4 [1024, 0, -1024, 0]).flatten

/-- Its spectrum at L = 8: bin 2 holds A²/3, bins 1 and 3 A²/12 each. -/
def toneSpectrum : Spectrum :=
  addSegments tone tone 2 { exponent := 3, segments := 2, segment := 0, sums := List.replicate 3 (List.replicate 4 0) }

/-- R126, as in the worked case of chapter 7: the three bins hold A²/2, and 1,024/√2 su are 1,726 fs. -/
theorem test_toneBand :
    bandFigure toneSpectrum 10000000 1 0 (1250000, 3750000) = { value := some 1726 } := by decide +kernel

/-- R124, R125: a band between two bins is empty, and one that ends above the bins is clipped. -/
theorem test_toneBandEdges :
    bandFigure toneSpectrum 10000000 1 0 (1300000, 1400000) = { value := none, flags := { bandEmpty := true } } ∧
      (bandFigure toneSpectrum 10000000 1 0 (1250000, 5000000)).flags = { bandClipped := true } := by
  decide +kernel

/-- R127: a tie goes to the higher bin, and both clips. -/
theorem test_spotBins :
    [spotBin 1875000 10000000 1 8, spotBin 1000 10000000 1 8, spotBin 4999999 10000000 1 8] = [2, 1, 3] ∧
      [spotClips 1875000 10000000 1 8, spotClips 1000 10000000 1 8, spotClips 4999999 10000000 1 8] =
        [false, true, true] := by
  decide +kernel

/-- R130: the level of the tone's bin, and a finer offset between bins 1 and 2 on the lower of them. -/
theorem test_spotFigure : spotFigure toneSpectrum 10000000 1 0 2500000 = { value := some (-14503) } ∧
    spotFigure toneSpectrum 10000000 1 0 1000000 = { value := some (-15105) } := by
  decide +kernel

/-! ### One step of each kind -/

/-- The part after a command. -/
def after (c : Instr) (s : State) : Option State :=
  match exec c s with
  | .next t => some t
  | _ => none

theorem test_identify : after (.identify 7) State.reset = some (answered 0x81 7
    [0x00, 0x4E, 0x0D, 0x04, 0x16, 1, 0, 16, 4, 2, 0x00, 0x00, 0x10, 0x00, 64, 4, 0x00, 0x04] State.reset) := by
  decide +kernel

/-- The part with four frames held behind a reply. -/
def fullHold : State :=
  setLink { State.reset.link with
    server := .replying (makeFrame 0x81 0 []), hold := List.replicate 4 (requestFrame 0 .identify) } State.reset

theorem test_fifthFrameIsBusy :
    after (.triggerArm 9) fullHold =
      some (setLink { fullHold.link with faults := [makeFrame 0xE0 9 [0x01, 0x10]] } fullHold) := by
  decide +kernel

theorem test_corruptedFrame :
    after (.linkCheckFault { requestFrame 5 .reset with check := 0 }) State.reset =
      some (answered 0xE0 5 [0x02, 0x17] { State.reset with link := State.reset.link }) := by
  decide +kernel

theorem test_firstByte :
    after (.byteReceived 0x5A .high) State.reset = some (setReceiver (.header []) State.reset) := by decide +kernel

theorem test_submitDispatches :
    (after (.jobSubmit 1 fields) locked).map (fun t => ((channelOfState t 0).state, t.jobCounter)) = some (.settling, 2) ∧
      (after (.jobSubmit 1 fields) locked).map (fun t => jobAt t 3) =
        some (some { job with state := .settling, channels := [0] }) := by
  decide +kernel

theorem test_calibrateStarts :
    (after (.calibrate 1 2) locked).map
        (fun t => ((channelOfState t 2).state, (channelOfState t 2).selector, recordOf t 2)) =
      some (.calibrating, .dither, .running) := by
  decide +kernel

theorem test_lossEndsACapture :
    let t := loseCapture (capturing (context .single)) 0
    (channelOfState t 0).state = .idle ∧ jobAt t 3 = none ∧ isNew (slotAt t 3) = true ∧ t.results.completion = [3] := by
  decide +kernel

theorem test_timePass :
    (after .timePassEnd (analysing job timestamps [] (.timePass item emptyWorking))).map
        (fun t => match t.engine with
          | .verdict _ w => some (w.status, (figureOf w.figures .freqOffset).value)
          | _ => none) = some (some (.complete, some (-882))) := by
  decide +kernel

/-! ### What the hypotheses of the statements are met by -/

/-- Every live job stands at its own site, found site by site. -/
theorem atHome_of {s : State} (h : ∀ site : Site, (jobAt s site).all (fun j => decide (j.site = site)) = true) :
    JobsAtHome s := by
  intro site j hj
  have := h site
  rw [hj] at this
  simpa using this

theorem witness_StepWithNoCommand : State.reset.pending = [] := rfl

/-- Each event of the part's own clocks: a tick that may pass, one that may not, and a due event of each kind. -/
theorem witness_IdleEvents :
    let settling := withCapture 0 .settling { context .single with settlingEnd := 0 } (withJob job locked)
    let expiring := capturing { context .single with deadline := some 0 }
    let pass (pass : Pass) (settled : Bool) : SectionContext :=
      { section0 with pass, settled, settlingEnd := 0, deadline := some 0 }
    let spectrum : Spectrum := { toneSpectrum with segment := 0 }
    let forming := analysing job timestamps [] (.spectralPass item emptyWorking spectrum)
    TicksPass locked 1 ∧ ¬TicksPass expiring 1 ∧ dueTick locked 0 ≠ some 0 ∧ State.reset.timebase.refState ≠ .locked ∧
    (channelOfState settling 0).context = some { context .single with settlingEnd := 0 } ∧
    settlingReported settling 0 = false ∧ settling.timebase.coarse = 0 ∧
    Captures expiring 0 { context .single with deadline := some 0 } ∧
    Calibrates (calibrating (pass .codeDensity false)) .a (pass .codeDensity false) ∧
    Calibrates (calibrating (pass .floor false)) .a (pass .floor false) ∧
    Calibrates (calibrating (pass .floor true)) .a (pass .floor true) ∧
    forming.engine = .spectralPass item emptyWorking spectrum ∧ spectrum.segment + 1 < spectrum.segments ∧
    toneSpectrum.segments ≤ toneSpectrum.segment + 1 := by
  unfold TicksPass Captures Calibrates; decide +kernel

theorem witness_RequestPayloads : fields.wellFormed = true := by decide

/-- The part about to end a RESET reply. -/
def resetting : State :=
  setLink { State.reset.link with
    server := .resetPending (makeFrame 0x97 1 [0]), transmitter := .sending .serverReply (makeFrame 0x97 1 [0]) } State.reset

theorem witness_Ready : Ready State.reset ∧ Ready locked ∧ Ready limited ∧ Ready posted := by
  unfold Ready; decide +kernel

theorem witness_Resets : State.reset.link.detector = .armed ∧
    resetting.link.server = .resetPending (makeFrame 0x97 1 [0]) ∧
    resetting.link.transmitter = .sending .serverReply (makeFrame 0x97 1 [0]) := by
  decide +kernel

/-- R184, R186: a break cuts a frame off at the byte in progress, which then ends. -/
theorem test_breakCutsAFrameOff :
    ((after .linkBreak resetting).map fun t => t.link.transmitter) = some .finishingByte ∧
    (((after .linkBreak resetting).bind (after .transmitFrameEnd)).map fun t => t.link.transmitter) = some .betweenFrames := by
  decide +kernel

/-- A gate about to lock. -/
def acquiring : State :=
  { locked with timebase := { locked.timebase with refState := .acquiring, run := 3 } }

/-- Outside LOCKED every count may end a gate unless it locks; in LOCKED both ends of the tolerance. -/
theorem witness_GateEnd : State.reset.timebase.refState ≠ .locked ∧ State.reset.timebase.refState ≠ .acquiring ∧
    acquiring.timebase.refState ≠ .locked ∧ ¬(99950 ≤ 99949 ∧ 99949 ≤ 100050) ∧
    locked.timebase.refState = .locked ∧ (99950 ≤ 99950 ∧ 99950 ≤ 100050) ∧ 99950 ≤ 100050 ∧ 100050 ≤ 100050 := by
  decide

theorem witness_FourthInLockGate : acquiring.timebase.refState = .acquiring ∧ acquiring.timebase.run = 3 ∧
    acquiring.timebase.gateBegan = .lock ∧ acquiring.timebase.gateMark = false ∧
    99950 ≤ acquiring.timebase.gateEdges + 99950 ∧ acquiring.timebase.gateEdges + 100050 ≤ 100050 := by
  decide

/-- One job live, with id 1. -/
theorem idsDistinct_capturing : IdsDistinct (capturing (context .single)) :=
  ⟨atHome_of (by decide +kernel), by decide +kernel, by decide, by decide⟩

/-- The channel a section serves. -/
def servedBy (s : State) (g : Group) : Option ChannelId :=
  (sectionContext s g).map (·.channel)

/-- Channels in step with their contexts, sections and records, found channel by channel. -/
theorem channelsFit_of {s : State}
    (h : ∀ c, ((channelOfState s c).context.isSome = true ↔
        (channelOfState s c).state = .settling ∨ (channelOfState s c).state = .capturing) ∧
      ((channelOfState s c).state = .calibrating ↔ servedBy s (groupOfChannel c) = some c) ∧
      ((channelOfState s c).state = .calibrating ↔ recordOf s c = .running))
    (home : ∀ g ∈ [Group.a, .b], (servedBy s g).all (fun c => decide (groupOfChannel c = g)) = true)
    (queues : ∀ g ∈ [Group.a, .b], ∀ c, Entry.calibration c ∈ queueOf s g → groupOfChannel c = g) : ChannelsFit s := by
  have both : ∀ g, g ∈ [Group.a, .b] := fun g => by cases g <;> simp
  refine ⟨fun c => ⟨(h c).1, (h c).2.1.trans ?_, (h c).2.2⟩, fun g ctx hs => ?_, fun g => queues g (both g)⟩
  · unfold servedBy sectionContext
    cases sectionOf s (groupOfChannel c) <;> simp
  · have := home g (both g)
    simpa [servedBy, sectionContext, hs] using this

/-- Whether a channel's group's pair unit is in step with the channel. -/
def pairSuits (s : State) (c : ChannelId) : Bool :=
  match pairOf s (groupOfChannel c), (channelOfState s c).context with
  | .idle, ctx => ctx.all fun ctx => decide (ctx.mode = .single)
  | .settling job low high, some ctx =>
    !(low && high) && decide ((channelOfState s c).state = .settling) && decide (ctx.mode = .paired) && decide (ctx.job = job)
  | .capturing job low high, some ctx =>
    !(low && high) && decide ((channelOfState s c).state = .capturing) && decide (ctx.mode = .paired) && decide (ctx.job = job)
      && (ctx.deadline.isNone == if c = lowChannel (groupOfChannel c) then low else high)
  | _, none => false

/-- Pair units in step with the contexts of their groups, found channel by channel. -/
theorem pairsExact_of {s : State} (h : ∀ c, pairSuits s c = true) : PairsExact s := by
  rintro g c rfl
  have := h c
  revert this
  unfold pairSuits
  cases pairOf s (groupOfChannel c) with
  | idle => exact fun h ctx hc => by simpa [hc] using h
  | settling job low high =>
    cases (channelOfState s c).context <;> cases low <;> cases high <;> simp +contextual
  | capturing job low high =>
    cases (channelOfState s c).context with
    | none => simp
    | some ctx =>
      simp only [Bool.and_eq_true, Bool.not_eq_true', decide_eq_true_eq, beq_iff_eq]
      rintro ⟨⟨⟨⟨both, state⟩, mode⟩, job⟩, full⟩
      exact ⟨fun h => by simp [h.1, h.2] at both, state, ctx, rfl, mode, job, by rw [← Option.isNone_iff_eq_none, full]⟩

/-- A pair capturing on channels 0 and 1, the calibration of channel 2 with its histogram complete, and channel 3 IDLE. -/
def working2 : State :=
  let ctx : SectionContext := { section0 with channel := 2, pass := .floor }
  let s := pairCapturing (midway .paired 3) { midway .paired 8 with deadline := none } (.capturing 1 false true)
  setRecord 2 .running (setSection .b (.busy ctx)
    (setChannel 2 { channelOfState s 2 with state := .calibrating, selector := .refLoop } s))

/-- R23, R31, R52: a loss with a pair capturing and a calibration running. -/
theorem witness_ReferenceLossOfAPair : working2.timebase.refState = .locked ∧ IdsDistinct working2 ∧ ChannelsFit working2 ∧
    PairsExact working2 ∧ (channelOfState working2 1).context = some { midway .paired 8 with deadline := none } ∧
    recordOf working2 2 = .running ∧ section0.hits = 65536 ∧ 0 < section0.histogram.getD 0 0 ∧
    0 < section0.histogram.getD 255 0 ∧ section0.histogram.length = 256 ∧ isValid (recordOf working2 3) = true :=
  ⟨by decide, ⟨atHome_of (by decide +kernel), by decide +kernel, by decide, by decide⟩,
    channelsFit_of (by decide +kernel) (by decide +kernel) (by decide +kernel), pairsExact_of (by decide +kernel),
    by decide +kernel, by decide +kernel, rfl, by decide +kernel, by decide +kernel, List.length_replicate, by decide +kernel⟩

/-- Both ways to lose the reference, with a job CAPTURING: a report, and a gate at each side of the tolerance. -/
theorem witness_ReferenceLoss : (capturing (context .single)).timebase.refState = .locked ∧
    IdsDistinct (capturing (context .single)) ∧
    ¬(99950 ≤ (capturing (context .single)).timebase.gateEdges + 99949) ∧
    ¬((capturing (context .single)).timebase.gateEdges + 100051 ≤ 100050) ∧
    (channelOfState (capturing (context .single)) 0).context = some (context .single) ∧
    (jobAt (capturing (context .single)) 3).map (·.id) = some (context .single).job ∧
    isValid (recordOf (capturing (context .single)) 0) = true ∧ recordOf (calibrating section0) 0 = .running :=
  ⟨by decide, idsDistinct_capturing, by decide, by decide, by decide +kernel, by decide +kernel, by decide +kernel,
    by decide +kernel⟩

/-- A frame that waits for the first temperature sample. -/
def unsampled : State :=
  setLink { State.reset.link with hold := [requestFrame 0 .identify] }
    { State.reset with timebase := { State.reset.timebase with sampleTaken := false } }

theorem witness_ReportsAndSamples : State.reset.timebase.refState ≠ .locked ∧ fullHold.link.server ≠ .idle ∧
    State.reset.link.hold = [] ∧ unsampled.link.server = .idle ∧ unsampled.link.hold = [requestFrame 0 .identify] := by
  decide +kernel

theorem witness_ChannelConfig : (channelOfState locked 0).state = .idle ∧
    (channelOfState (capturing (context .single)) 0).state ≠ .idle ∧ 4 ≤ (4 : Byte).toNat ∧ (3 : Byte).toNat < 4 ∧
    3 ≤ (3 : Byte).toNat ∧ (2 : Byte).toNat < 3 ∧ 2 ≤ (2 : Byte).toNat := by
  decide +kernel

/-- A channel settling for a SINGLE job, and both channels of a pair settling. -/
def settlingPair (pair : PairUnit) : State :=
  setPair .a pair (withCapture 0 .settling { context .paired with deadline := none }
    (withCapture 1 .settling { context .paired with deadline := none } (withJob pairedJob locked)))

theorem witness_SettlingEnd :
    let single := withCapture 0 .settling { context .single with deadline := none } (withJob job locked)
    TicksPass single (ticksUntil single 8000) ∧ settlingReported single 0 = false ∧
    TicksPass (settlingPair (.settling 1 false false)) (ticksUntil (settlingPair (.settling 1 false false)) 8000) ∧
    TicksPass (settlingPair (.settling 1 false true)) (ticksUntil (settlingPair (.settling 1 false true)) 8000) ∧
    (channelOfState (settlingPair (.settling 1 false true)) 1).context = some { context .paired with deadline := none } := by
  unfold TicksPass; decide +kernel

/-- A capture with the prescaler ratio given. -/
def prescaling (ratio : Nat) : State :=
  let s := capturing (context .single)
  setChannel 0 { channelOfState s 0 with ratio } s

/-- An edge on the deadline's own tick, first of two and at P; one on an IDLE channel, on a paired channel that waits with its
record full, and on a CALIBRATING channel in each pass. -/
theorem witness_ComparatorEdge :
    let floor (deadline : Option Tick) : SectionContext := { section0 with pass := .floor, deadline }
    TicksPass (prescaling 2) 160 ∧ Captures (prescaling 2) 0 (context .single) ∧
    (channelOfState (prescaling 2) 0).count + 1 < (channelOfState (prescaling 2) 0).ratio ∧
    (channelOfState (prescaling 1) 0).ratio ≤ (channelOfState (prescaling 1) 0).count + 1 ∧ TicksPass locked 5 ∧
    (channelOfState locked 0).state = .idle ∧ TicksPass working2 5 ∧ (channelOfState working2 1).state = .capturing ∧
    (channelOfState working2 1).context = some { midway .paired 8 with deadline := none } ∧
    Calibrates (calibrating section0) .a section0 ∧ TicksPass (calibrating section0) 5 ∧
    Calibrates (calibrating (floor (some 160))) .a (floor (some 160)) ∧ TicksPass (calibrating (floor (some 160))) 160 ∧
    Calibrates (calibrating (floor none)) .a (floor none) ∧ TicksPass (calibrating (floor none)) 5 := by
  unfold TicksPass Captures Calibrates; decide +kernel

/-- An interval at each end of the window, the last prescaled edge not yet due; and discard 1, which has no interval. -/
theorem witness_PrescaledEdge : TicksPass (capturing (midway .single 2)) 30 ∧ TicksPass (capturing (midway .single 2)) 50 ∧
    Captures (capturing (midway .single 2)) 0 (midway .single 2) ∧
    (channelOfState (capturing (midway .single 2)) 0).ratio ≤ (channelOfState (capturing (midway .single 2)) 0).count + 1 ∧
    (midway .single 2).nextIndex + 1 ≠ (midway .single 2).recordLength ∧
    (∀ ticks : Nat, ticks = 30 ∨ ticks = 50 → 1228800000000 ≤ ticks * 4096 * 10000000 ∧
      ticks * 4096 * 10000000 ≤ 2048000000000) ∧ (context .single).previous = none := by
  refine ⟨⟨rfl, by decide +kernel⟩, ⟨rfl, by decide +kernel⟩, ?_, by decide +kernel, by decide, by omega, rfl⟩
  unfold Captures; decide +kernel

/-- An interval just below the window and one just above it, and a deadline reached. -/
theorem witness_CaptureFailures : TicksPass (capturing (midway .single 2)) 29 ∧ TicksPass (capturing (midway .single 2)) 51 ∧
    29 * 4096 * 10000000 < 1228800000000 ∧ 2048000000000 < 51 * 4096 * 10000000 ∧
    TicksPass (capturing (context .single)) (ticksUntil (capturing (context .single)) 160) ∧
    (context .single).deadline = some 160 := by
  refine ⟨⟨rfl, by decide +kernel⟩, ⟨rfl, by decide +kernel⟩, by decide, by decide, ⟨rfl, by decide +kernel⟩, rfl⟩

theorem witness_RecordComplete : TicksPass (capturing (midway .single 7)) 40 ∧
    Captures (capturing (midway .single 7)) 0 (midway .single 7) ∧ (midway .single 7).mode = .single ∧
    (midway .single 7).nextIndex + 1 = (midway .single 7).recordLength ∧ 0 ≤ (midway .single 7).nextIndex ∧
    1228800000000 ≤ 40 * 4096 * 10000000 ∧ 40 * 4096 * 10000000 ≤ 2048000000000 := by
  unfold TicksPass Captures; decide +kernel

/-- The last edge of one channel, the other channel not full or full already. -/
theorem witness_PairRecordFull :
    let full : CaptureContext := { midway .paired 8 with deadline := none }
    let first := pairCapturing (midway .paired 7) (midway .paired 3) (.capturing 1 false false)
    let last := pairCapturing (midway .paired 7) full (.capturing 1 false true)
    TicksPass first 40 ∧ Captures first 0 (midway .paired 7) ∧ pairOf first .a = .capturing 1 false false ∧
    TicksPass last 40 ∧ Captures last 0 (midway .paired 7) ∧ pairOf last .a = .capturing 1 false true ∧
    (midway .paired 7).nextIndex + 1 = (midway .paired 7).recordLength ∧
    (channelOfState last 1).context = some full := by
  unfold TicksPass Captures; decide +kernel

theorem witness_Calibrate :
    Entry.calibration 0 ∈ queueOf (setQueue .a [.calibration 0] State.reset) .a ∧
    recordOf (calibrating section0) 0 = .running ∧ Entry.calibration 0 ∉ queueOf locked .a ∧
    recordOf locked 0 ≠ .running ∧ recordOf locked 0 = .valid 100 10 200 [] 300 ∧ recordOf State.reset 0 = .uncal ∧
    recordOf (setRecord 0 (.failed .noSignal none none) State.reset) 0 = .failed .noSignal none none := by
  decide +kernel

/-- The code-density pass before its settling end, at its last hit, and complete. -/
theorem witness_CodeDensityHits :
    let unsettled : SectionContext := { section0 with hits := 0, settled := false }
    Calibrates (calibrating unsettled) .a unsettled ∧
    TicksPass (calibrating unsettled) (ticksUntil (calibrating unsettled) 8000) ∧
    sectionOf (calibrating { section0 with hits := 65535 }) .a = .busy { section0 with hits := 65535 } ∧
    sectionOf (calibrating section0) .a = .busy section0 ∧ section0.hits = 65536 := by
  unfold Calibrates TicksPass; decide +kernel

/-- Spans of 127 and of 128 codes, the latter with a code of exactly and of more than four mean widths. -/
theorem witness_CodeDensityPassEnd :
    let narrow := List.replicate 127 516 ++ List.replicate 129 0
    let wide := 2049 :: List.replicate 127 499 ++ List.replicate 128 0
    let even := 2048 :: List.replicate 127 499 ++ List.replicate 128 0
    narrow.length = 256 ∧ wide.length = 256 ∧ even.length = 256 ∧ 0 < narrow.getD 126 0 ∧ 0 < even.getD 127 0 ∧
    (∀ code < 256, 126 < code → narrow.getD code 0 = 0) ∧ (∀ code < 256, 127 < code → even.getD code 0 = 0) ∧
    126 - 0 + 1 < 128 ∧ 128 ≤ 127 - 0 + 1 ∧ (∃ h ∈ wide, 4 * 65536 < h * 128) ∧ ∀ h ∈ even, h * 128 ≤ 4 * 65536 := by
  decide +kernel

/-- The floor pass before its gate, and with both ends of the period window, mid-record and at the last edge. -/
theorem witness_FloorPass :
    let unsettled : SectionContext := { section0 with pass := .floor, settled := false }
    let taking : SectionContext := { section0 with pass := .floor, nextIndex := 5, previous := some 0, deadline := some 160 }
    Calibrates (calibrating unsettled) .a unsettled ∧
    TicksPass (calibrating unsettled) (ticksUntil (calibrating unsettled) 8000) ∧
    sectionOf (calibrating taking) .a = .busy taking ∧ TicksPass (calibrating taking) 30 ∧
    TicksPass (calibrating taking) 50 ∧ taking.nextIndex + 1 ≠ 65536 ∧ (65535 : Int) + 1 = 65536 ∧
    1228800000000 ≤ 30 * 4096 * 10000000 ∧ 50 * 4096 * 10000000 ≤ 2048000000000 ∧
    TicksPass (calibrating taking) 51 ∧ Calibrates (calibrating taking) .a taking ∧ taking.settled = true ∧
    TicksPass (calibrating taking) (ticksUntil (calibrating taking) 160) := by
  unfold Calibrates TicksPass; decide +kernel

theorem witness_FloorComputation :
    let ctx : SectionContext := { section0 with pass := .floor, timestamps := List.replicate 65536 0 }
    sectionOf (calibrating ctx) .a = .busy ctx ∧ ctx.pass = .floor ∧ ctx.timestamps.length = 65536 :=
  ⟨rfl, rfl, List.length_replicate⟩

/-- A calibration entry at the head that can run, and one that cannot. -/
theorem witness_CalibrationHead :
    let runs := setQueue .a [.calibration 0] locked
    let waits := setQueue .a [.calibration 0] State.reset
    queueOf runs .a = [.calibration 0] ∧ (channelOfState runs 0).state = .idle ∧ runs.timebase.refState = .locked ∧
    sectionOf runs .a = .free ∧ queueOf waits .a = [.calibration 0] ∧ waits.timebase.refState ≠ .locked ∧
    Group.b ≠ Group.a := by
  decide +kernel

/-- Jobs at the head of their queue: one for each choice, and one that waits. -/
theorem witness_Dispatch :
    let queued (j : Job) : State := setQueue .a [.job 1 3] (withJob j locked)
    channelsFor (queued job) .a job = some [0] ∧ jobAt (queued job) 3 = some job ∧
    channelsFor (queued { job with choice := some 1 }) .a { job with choice := some 1 } = some [1] ∧
    channelsFor (queued pairedJob) .a pairedJob = some [0, 1] ∧ (0 : ChannelId) ≠ 1 ∧
    channelsFor (queued { job with state := .held }) .a { job with state := .held } = none ∧
    queueOf (queued job) .a = [.job 1 3] := by
  decide +kernel

/-- A trigger filter whose qualification stands at the count given. -/
def qualifying (state : TriggerState) (n : Nat) : State :=
  { locked with trigger := { locked.trigger with state, sensed := true, lineLevel := .high, qualification := some n } }

theorem witness_Trigger : (qualifying .armed 23).trigger.sensed = true ∧ Level.low ≠ (qualifying .armed 23).trigger.lineLevel ∧
    Level.high = (qualifying .armed 23).trigger.lineLevel ∧ State.reset.trigger.sensed = false ∧
    (qualifying .disarmed 24).trigger.state = .disarmed ∧ (qualifying .armed 24).trigger.state = .armed ∧
    (qualifying .armed 24).trigger.qualification = some 24 ∧ 23 + 1 ≠ 25 ∧ 24 + 1 = 25 := by
  decide +kernel

theorem witness_TriggerRequests : Ready (qualifying .armed 1) ∧ (qualifying .armed 1).trigger.state = .armed ∧
    Ready locked ∧ locked.trigger.state = .disarmed ∧ 2 ≤ (2 : Byte).toNat := by
  unfold Ready; decide +kernel

/-- A submission whose first field is no site, and one whose fields are all accepted. -/
theorem witness_JobFields : { fields with site := 16 }.wellFormed = true ∧ draftJob { fields with site := 16 } = .error 1 ∧
    (draftJob fields).toOption = some { job with id := 0 } := by
  decide +kernel

/-- The same submission with its site busy, with its limit entry undefined, and accepted. -/
theorem witness_JobSubmit : (jobAt (withJob job locked) 3).isSome = true ∧ jobAt locked 3 = none ∧
    limitFault locked 0 false 0 0 10000000 = some .limitAbsent ∧ limitFault limited 2 false 0 0 10000000 = none ∧
    1 ≤ locked.jobCounter ∧ locked.jobCounter ≤ 65535 := by
  decide +kernel

/-- The live job in each part of its life, as JOB_STATUS and JOB_CANCEL find it. -/
theorem witness_JobStatusAndCancel :
    let queued := setQueue .a [.job 1 3] (withJob job locked)
    let waiting := { withJob { job with state := .analysisWait } locked with analysisQueue := [item] }
    let engaged := analysing job timestamps [] (.timePass item emptyWorking)
    Ready queued ∧ jobAt queued 3 = some job ∧ queueOf queued .a = [] ++ .job 1 3 :: [] ∧
    (jobAt (capturing (context .single)) 3).map (·.channels) = some [0] ∧ waiting.analysisQueue = [] ++ item :: [] ∧
    item.job = job.id ∧ engineItem engaged.engine = some item ∧ jobAt locked 3 = none ∧ 16 ≤ (16 : Byte).toNat := by
  unfold Ready; decide +kernel

/-- A live job that names a defined entry. -/
theorem witness_JobEnding :
    let named := withJob { job with limit := some 2 } limited
    IdsDistinct (capturing (context .single)) ∧ job.limit = none ∧ IdsDistinct named ∧
    jobAt named 3 = some { job with limit := some 2 } ∧ named.limits.entries[2] = some limitSet :=
  ⟨idsDistinct_capturing, rfl, ⟨atHome_of (by decide +kernel), by decide +kernel, by decide, by decide⟩, by decide +kernel,
    by decide +kernel⟩

/-- Limit entries beyond the extent, undefined, defined, and in use. -/
theorem witness_Limits :
    let used := { limited with limits := { limited.limits with inUse := limited.limits.inUse.set 2 1 } }
    (draftLimit limitFields).toOption = some (2, limitSet) ∧ (draftLimit { limitFields with tieRms := none }).toOption = none ∧
    limited.limits.extent ≤ (16 : Fin 64).val ∧ (2 : Fin 64).val < limited.limits.extent ∧ inUseOf limited 2 = 0 ∧
    0 < inUseOf used 2 ∧ limited.limits.entries[2] = some limitSet ∧ limited.limits.entries[3] = none ∧
    64 ≤ (64 : Byte).toNat ∧ (1 : Byte).toNat ≤ 2 ∧ limited.limits.entries[2].isSome = true := by
  decide +kernel

/-- R139, R140: a LIMIT_WRITE that is answered OK, and the table as it leaves it. -/
theorem witness_LimitReadBack :
    let t : State := { limited with link := State.reset.link }
    (after (.limitWrite 5 limitFields) State.reset).map (fun u => (u.link.server, u.limits)) =
      some (.replying (makeFrame 0x87 5 [0x00, 2, 0]), t.limits) ∧ t.link.server = .idle ∧ t.link.hold = [] := by
  decide +kernel

/-- Each outcome of the limit checks, and a lot opened and refused. -/
theorem witness_LimitChecks :
    let lots := { limited with limits := { limited.limits with
      entries := limited.limits.entries.set 2 (some { limitSet with lot := some 5 }) } }
    limitFault limited 16 false 0 0 10000000 = some .limitRange ∧ limitFault limited 3 false 0 0 10000000 = some .limitAbsent ∧
    limitFault { limited with limits := { limited.limits with
      entries := limited.limits.entries.set 2 (some { limitSet with kind := .spectral }) } } 2 false 0 0 10000000 =
        some .limitKind ∧
    limitFault lots 2 false 0 0 10000000 = some .limitScope ∧ limitFault limited 2 false 0 0 999999 = some .limitFreq ∧
    limitFault limited 2 false 0 0 1000000 = none ∧ liveJobs limited = [] ∧ liveJobs (withJob job limited) ≠ [] := by
  decide +kernel

/-- Results that pass, fail, lack a figure, and are not compared. -/
theorem witness_Verdict :
    let with1 (v : Int) : Figures := noFigures.set 1 { value := some v }
    (judge (some limitSet) .complete false (with1 5000)).verdict = .pass ∧
    (judge (some limitSet) .complete false (with1 5001)).verdict = .fail ∧
    (judge (some limitSet) .complete false noFigures).verdict = .incomplete ∧
    (judge (some limitSet) .complete true (with1 0)).verdict = .retest ∧
    (judge (some limitSet) .refLost false (with1 0)).verdict = .retest := by
  decide +kernel

theorem witness_Results : posted.results.completion = [3] ∧ slotAt posted 3 = .new record ∧ (3 : Site) ∉ ([] : List Site) ∧
    slotAt posted 4 = .empty ∧ State.reset.results.completion = [] ∧ 16 ≤ (16 : Byte).toNat ∧
    slotAt { posted with results := { posted.results with slots := posted.results.slots.set 3 (.read record) } } 3 =
      .read record := by
  decide +kernel

/-- A flag clear and a flag pending, the idle condition holding and not, and a flag set turned on while its flag is pending. -/
theorem witness_Notices :
    let pending := raise .calDone State.reset
    flagOf State.reset.notices.flags .calDone = false ∧ flagOf pending.notices.flags .calDone = true ∧ Ready pending ∧
    flagOf pending.notices.enables .calDone = false ∧ idleCondition State.reset = true ∧
    State.reset.notices.idleHolds = true ∧ idleCondition (capturing (context .single)) = false ∧
    (32 : Byte).toNat = 32 ∧ (31 : Byte).toNat < 32 := by
  unfold Ready; decide +kernel

theorem witness_Engine : State.reset.engine = .idle ∧ State.reset.analysisQueue = [] ∧
    { State.reset with analysisQueue := [item] }.analysisQueue = item :: [] ∧
    (analysing job timestamps [] (.timePass item emptyWorking)).engine ≠ .idle ∧
    pairItem.second.map (·.channel) = some 1 ∧ (1 : ChannelId) ≠ pairItem.first.channel := by
  decide +kernel

/-- A SINGLE item, and pairs aligned, one edge late, one edge early and slipped: 2 × difference × f_nom against the window. -/
theorem witness_TimePass :
    let s := analysing job timestamps [] (.timePass item emptyWorking)
    let p := analysing pairedJob timestamps timestamps (.timePass pairItem emptyWorking)
    s.engine = .timePass item emptyWorking ∧ jobWithId s 1 = some { job with state := .analysing, channels := [0] } ∧
    p.engine = .timePass pairItem emptyWorking ∧ |2 * (81919 : Int) * 10000000| < 1638400000000 ∧
    |2 * (-81921 : Int) * 10000000 + 2 * 1638400000000| < 1638400000000 ∧
    |2 * (81921 : Int) * 10000000 - 2 * 1638400000000| < 1638400000000 ∧
    (1638400000000 : Int) ≤ |2 * (81920 : Int) * 10000000| ∧
    (1638400000000 : Int) ≤ |2 * (81920 : Int) * 10000000 - 2 * 1638400000000| ∧
    (1638400000000 : Int) ≤ |2 * (81920 : Int) * 10000000 + 2 * 1638400000000| := by
  decide +kernel

theorem witness_Arithmetic : 2 ≤ (timestamps.take 2).length ∧ 3 ≤ (timestamps.take 3).length ∧
    (timestamps.take 3).length = (timestamps.take 3).length ∧ 0 < meanInterval timestamps := by
  decide +kernel

/-- A spectral pass in progress. -/
theorem witness_SpectralPassEnd :
    let j : Job := { job with spectral := true, exponent := some 10, bands := [(1, 2)], spots := [1] }
    let s := analysing j timestamps [] (.spectralPass item emptyWorking toneSpectrum)
    s.engine = .spectralPass item emptyWorking toneSpectrum ∧
    jobWithId s item.job = some { j with state := .analysing, channels := [0] } ∧ j.bands.length ≤ 4 ∧ j.spots.length ≤ 4 := by
  decide +kernel

theorem witness_EnginePost :
    let s := analysing job timestamps [] (.verdict item emptyWorking)
    s.engine = .verdict item emptyWorking ∧ IdsDistinct s ∧
    jobAt s 3 = some { job with state := .analysing, channels := [0] } ∧ job.id = item.job :=
  ⟨rfl, ⟨atHome_of (by decide +kernel), by decide +kernel, by decide, by decide⟩, by decide +kernel, rfl⟩

/-- Frames that meet a reset, a waiting server, an idle server, a full hold and a full fault list. -/
theorem witness_InputHold :
    let flooded := setLink { fullHold.link with faults := List.replicate 4 (linkFaultReply .busy (requestFrame 0 .identify)) }
      fullHold
    resetting.link.server = .resetPending (makeFrame 0x97 1 [0]) ∧ unsampled.timebase.sampleTaken = false ∧
    unsampled.link.hold.length < 4 ∧ State.reset.link.hold ++ [requestFrame 0 .status] = requestFrame 0 .status :: [] ∧
    4 ≤ fullHold.link.hold.length ∧ fullHold.link.faults.length < 4 ∧ 4 ≤ flooded.link.faults.length ∧
    (requestFrame 0 .identify).payload.length ≤ 1024 := by
  decide +kernel

/-- Frames that fail each link check in turn, and one that passes. -/
theorem witness_LinkChecks :
    checkHolds (makeFrame 24 0 []) = true ∧ checkHolds (makeFrame 1 0 [0]) = true ∧ isRequestKind (makeFrame 1 0 [0]).kind = true ∧
    (makeFrame 1 0 [0]).payload.length ≤ 1024 ∧
    checkHolds { requestFrame 0 .identify with check := 0 } = false ∧ isRequestKind (makeFrame 24 0 []).kind = false ∧
    isRequestKind (makeFrame 0 0 []).kind = false ∧ readRequest 1 [0] = none ∧ readRequest 23 [] = some .reset ∧
    readRequest 4 [0] = some (.calibrate 0) ∧ checkHolds (requestFrame 0 (.calibrate 0)) = true := by
  decide +kernel

/-- The transmitter with each thing to send, and at the end of each. -/
theorem witness_Transmitter :
    let fault := setLink { State.reset.link with faults := [linkFaultReply .busy (requestFrame 0 .identify)] } State.reset
    let due := { State.reset with notices :=
      { State.reset.notices with flags := { calDone := true }, enables := { calDone := true }, due := true } }
    fault.link.transmitter = .betweenFrames ∧ fault.link.faults ≠ [] ∧ due.notices.due = true ∧
    (flagOf due.notices.flags .calDone = true ∧ flagOf due.notices.enables .calDone = true) ∧
    State.reset.notices.due = false ∧ fullHold.link.server = .replying (makeFrame 0x81 0 []) ∧
    resetting.link.transmitter = .sending .serverReply (makeFrame 0x97 1 [0]) ∧ fullHold.link.hold ≠ [] ∧
    State.reset.link.hold = [] ∧ (after .linkBreak resetting).map (fun t => t.link.transmitter) = some .finishingByte := by
  decide +kernel

/-- The receiver in each state, and the detector at its last period. -/
theorem witness_Receiver :
    State.reset.link.receiver = .hunt ∧ (setReceiver (.header [1, 0, 1]) State.reset).link.receiver = .header [1, 0, 1] ∧
    ([1, 0, 1] : List Byte).length < 4 ∧ (setReceiver (.body 1 [1, 0, 1, 0]) State.reset).link.receiver = .body 1 [1, 0, 1, 0] ∧
    (setReceiver (.check 0 [0, 0, 1, 0, 9]) State.reset).link.receiver = .check 0 [0, 0, 1, 0, 9] ∧
    ([0, 0, 1, 0, 9] ++ [9] : List Byte).length = 6 + 0 ∧ 249999 + 1 = 250000 ∧ 249998 + 1 < 250000 := by
  decide +kernel

/-- The finished spectrum of a tone has the shape that the figures ask for, and its powers are of both kinds. -/
theorem witness_Spectrum : toneSpectrum.exponent = 1 + 2 ∧ 0 < toneSpectrum.segments ∧
    toneSpectrum.sums.length = 2 ^ (1 + 1) - 1 ∧ (∀ sum ∈ toneSpectrum.sums, sum.length = 2 ^ (1 + 1)) ∧
    powerSign toneSpectrum (correctedPower toneSpectrum (toneSpectrum.sums.take 1) 0) = 1 ∧
    powerSign toneSpectrum (correctedPower toneSpectrum (toneSpectrum.sums.take 1) (10 ^ 12)) = -1 := by
  decide +kernel

/-- A part in LOCKED with a command waiting. -/
def working : State :=
  { locked with pending := [.interByteGapExpiry] }

/-- A part without a live job, an analysis item, a capture or an entry of a queue has no work to fit. -/
theorem workFits_of {s : State} (jobs : ∀ site, jobAt s site = none) (queues : s.queues = { a := [], b := [] })
    (channels : ∀ c, (channelOfState s c).context = none ∧ (channelOfState s c).bank0 = .empty ∧
      (channelOfState s c).bank1 = .empty)
    (pairs : s.pairs = { a := .idle, b := .idle }) (items : s.analysisQueue = []) (engine : s.engine = .idle) (live : liveJobs s = []) :
    WorkFits s := by
  have banks : ∀ c b, bankOf (channelOfState s c) b = .empty := fun c b => by
    unfold bankOf
    split
    · exact (channels c).2.1
    · exact (channels c).2.2
  have queues : ∀ g, queueOf s g = [] := fun g => by cases g <;> simp [queueOf, PerGroup.of, queues]
  have pairs : ∀ g, pairOf s g = .idle := fun g => by cases g <;> simp [pairOf, PerGroup.of, pairs]
  have held : itemsHeld s = [] := by simp [itemsHeld, engineItem, items, engine]
  exact ⟨fun site j h => absurd h (by simp [jobs]), fun g => ⟨by simp [queues], fun id site => by simp [queues, jobs]⟩,
    ⟨fun c ctx h => absurd h (by simp [channels]), fun site j c h => absurd h (by simp [jobs])⟩,
    fun g c _ => by simp [pairs, channels], ⟨by simp [held], fun id => by simp [items, engine, engineItem, live]⟩,
    ⟨by simp [held], fun c b => by simp [banks, held, channels, Bank.empty]⟩⟩

theorem witness_Invariants : (∃ t, step working = .next t) ∧ ChannelsFit working ∧ LostReferenceStopsWork working ∧
    IdleFollowed working ∧ IdsDistinct working ∧ InUseExact working ∧ WorkFits working ∧ LimitsFit working ∧
    CompletionExact working ∧ LinkWithinPlaces working :=
  ⟨⟨_, rfl⟩, channelsFit_of (by decide +kernel) (by decide +kernel) (by decide +kernel), fun h => absurd rfl h,
    by unfold IdleFollowed; decide +kernel, ⟨atHome_of (by decide +kernel), by decide +kernel, by decide, by decide⟩,
    ⟨atHome_of (by decide +kernel), by decide +kernel⟩,
    workFits_of (by decide +kernel) rfl (by decide +kernel) rfl rfl rfl (by decide +kernel),
    ⟨by decide, by decide, by decide +kernel⟩, ⟨by decide, by decide +kernel⟩, by decide, by decide⟩

end Sys2Proof.Tests
end

section
/-! SUPPORT. CHANNEL_CONFIG (R13, R14): which bytes name a channel, a termination and an edge, the threshold used, and what
the request's owner answers in each case. -/

namespace Sys2Proof.Machine

/-! ### Bytes that name a channel, a termination or an edge (R188) -/

theorem channelOf_channelCode (c : ChannelId) : channelOf (channelCode c) = some c := by
  have hc : (channelCode c).toNat = c.val := toNat_byteOfNat (by omega)
  simp [channelOf, hc]

theorem terminationOf_terminationCode (t : Termination) : terminationOf (terminationCode t) = some t := by
  cases t <;> rfl

theorem edgeOf_edgeCode (e : Edge) : edgeOf (edgeCode e) = some e := by
  cases e <;> rfl

theorem channelOf_eq_none_iff (b : Byte) : channelOf b = none ↔ 4 ≤ b.toNat := by
  simp [channelOf]

theorem terminationOf_eq_none_iff (b : Byte) : terminationOf b = none ↔ 3 ≤ b.toNat := by
  have named : terminationOf b = none ↔ b ≠ 0 ∧ b ≠ 1 ∧ b ≠ 2 := by simp [terminationOf, ite_eq_iff]
  rw [named]
  bv_omega

theorem edgeOf_eq_none_iff (b : Byte) : edgeOf b = none ↔ 2 ≤ b.toNat := by
  have named : edgeOf b = none ↔ b ≠ 0 ∧ b ≠ 1 := by simp [edgeOf, ite_eq_iff]
  rw [named]
  bv_omega

theorem exists_channelOf {b : Byte} (h : b.toNat < 4) : ∃ c, channelOf b = some c :=
  Option.ne_none_iff_exists'.mp fun none => absurd ((channelOf_eq_none_iff b).mp none) (Nat.not_le.mpr h)

theorem exists_terminationOf {b : Byte} (h : b.toNat < 3) : ∃ t, terminationOf b = some t :=
  Option.ne_none_iff_exists'.mp fun none => absurd ((terminationOf_eq_none_iff b).mp none) (Nat.not_le.mpr h)

/-! ### The threshold and the record -/

/-- Half of a 10 mV step is 5 mV, so rounding with ties up is the floor of the request plus 5 (R13). -/
theorem usedThreshold_eq (requested : Int) :
    usedThreshold requested = max (-1000) (min 2500 (10 * ((requested + 5) / 10))) := by
  have rounded : roundTiesUp requested 10 * 10 = 10 * ((requested + 5) / 10) := by
    unfold roundTiesUp
    omega
  rw [usedThreshold, rounded]

/-- Writing a calibration record only in one case is the same as writing back the present one in the other. -/
theorem ite_setRecord (p : Prop) [Decidable p] (c : ChannelId) (x : CalRecord) (s : State) :
    (if p then s else setRecord c x s) = setRecord c (if p then recordOf s c else x) s := by
  split
  · simp [setRecord, recordOf]
  · rfl

/-- The calibration record of a channel once its configuration record is set: UNCAL when that changes it (R14, R51). -/
def recordUnder (config : ChannelConfig) (c : ChannelId) (s : State) : CalRecord :=
  if config = (channelOfState s c).config then recordOf s c else .uncal

/-! ### What the owner of CHANNEL_CONFIG answers -/

theorem serveChannelConfig_of_idle {c : ChannelId} {s : State} (requested : BitVec 16) (t : Termination) (e : Edge)
    (idle : (channelOfState s c).state = .idle) :
    let config : ChannelConfig := { threshold := usedThreshold requested.toInt, termination := t, edge := e }
    serveChannelConfig (channelCode c) requested (terminationCode t) (edgeCode e) s =
      (okReply (bytes16OfInt config.threshold ++ [terminationCode t, edgeCode e, calStateCode (recordUnder config c s)]),
        setRecord c (recordUnder config c s) (setChannel c { channelOfState s c with config } s)) := by
  intro config
  simp only [serveChannelConfig, channelOf_channelCode, terminationOf_terminationCode, edgeOf_edgeCode,
    if_neg (not_not.mpr idle), ite_setRecord, recordOf_setRecord, recordOf_setChannel, if_true]
  rfl

theorem serveChannelConfig_of_not_idle {c : ChannelId} {s : State} (requested : BitVec 16) (t : Termination) (e : Edge)
    (active : (channelOfState s c).state ≠ .idle) :
    serveChannelConfig (channelCode c) requested (terminationCode t) (edgeCode e) s = (refusal .channelBusy, s) := by
  simp only [serveChannelConfig, channelOf_channelCode, terminationOf_terminationCode, edgeOf_edgeCode, if_pos active]

theorem serveChannelConfig_of_bad_channel {channel : Byte} (requested : BitVec 16) (termination edge : Byte) (s : State)
    (bad : 4 ≤ channel.toNat) : serveChannelConfig channel requested termination edge s = (badField 1, s) := by
  simp only [serveChannelConfig, (channelOf_eq_none_iff channel).mpr bad]

theorem serveChannelConfig_of_bad_termination {channel termination : Byte} (requested : BitVec 16) (edge : Byte) (s : State)
    (hc : channel.toNat < 4) (bad : 3 ≤ termination.toNat) :
    serveChannelConfig channel requested termination edge s = (badField 3, s) := by
  obtain ⟨c, hc⟩ := exists_channelOf hc
  simp only [serveChannelConfig, hc, (terminationOf_eq_none_iff termination).mpr bad]

theorem serveChannelConfig_of_bad_edge {channel termination edge : Byte} (requested : BitVec 16) (s : State)
    (hc : channel.toNat < 4) (ht : termination.toNat < 3) (bad : 2 ≤ edge.toNat) :
    serveChannelConfig channel requested termination edge s = (badField 4, s) := by
  obtain ⟨c, hc⟩ := exists_channelOf hc
  obtain ⟨t, ht⟩ := exists_terminationOf ht
  simp only [serveChannelConfig, hc, ht, (edgeOf_eq_none_iff edge).mpr bad]

/-! ### The command -/

/-- The owner of CHANNEL_CONFIG neither reads nor writes the receiver. -/
theorem serveChannelConfig_setReceiver (channel : Byte) (requested : BitVec 16) (termination edge : Byte) (r : Receiver)
    (s : State) :
    serveChannelConfig channel requested termination edge (setReceiver r s) =
      ((serveChannelConfig channel requested termination edge s).1,
        setReceiver r (serveChannelConfig channel requested termination edge s).2) := by
  have sameChannel : ∀ c, channelOfState (setReceiver r s) c = channelOfState s c := fun _ => rfl
  unfold serveChannelConfig
  simp only [sameChannel]
  split
  case h_4 c t e _ _ _ =>
    split
    · rfl
    · dsimp only
      split <;> rfl
  all_goals rfl

/-- A CHANNEL_CONFIG that finds the server ready gets its owner's answer (R176). -/
theorem exec_channelConfig_answers {s : State} (tag channel : Byte) (requested : BitVec 16) (termination edge : Byte)
    (ready : Ready s) :
    exec (.channelConfig tag channel requested termination edge) s =
      .next (answered 0x83 tag (serveChannelConfig channel requested termination edge s).1
        (serveChannelConfig channel requested termination edge s).2) := by
  have readsBack : readRequest 0x03 (requestPayload (.channelConfig channel requested termination edge)) =
      some (.channelConfig channel requested termination edge) := by
    simp [readRequest, requestPayload, bytes16, word16_bytes]
  have served := serveChannelConfig_setReceiver channel requested termination edge .hunt s
  exact congrArg Host.Outcome.next
    (receiveFrame_answers (tag := tag) ready readsBack (by simp [requestPayload, bytes16]) (by simp) served)

/-- Settles O13: the server is ready, so the reply and the next state are those of the request's owner, whose cases are an
IDLE channel, a channel that is not IDLE, and each byte that names nothing. -/
theorem channelConfigSetsAnIdleChannel : Obligations.ChannelConfigSetsAnIdleChannel := by
  unfold Obligations.ChannelConfigSetsAnIdleChannel
  refine ⟨fun tag c requested t e s ready => ⟨fun idle => ?_, fun active => ?_⟩,
    fun tag channel termination edge requested s ready => ⟨fun bad => ?_, fun hc bad => ?_, fun hc ht bad => ?_⟩⟩
  all_goals rw [exec_channelConfig_answers _ _ _ _ _ ready]
  · rw [serveChannelConfig_of_idle requested t e idle, usedThreshold_eq]
    rfl
  · rw [serveChannelConfig_of_not_idle requested t e active]
    rfl
  · rw [serveChannelConfig_of_bad_channel requested termination edge s bad]
    rfl
  · rw [serveChannelConfig_of_bad_termination requested edge s hc bad]
    rfl
  · rw [serveChannelConfig_of_bad_edge requested s hc ht bad]
    rfl

end Sys2Proof.Machine
end

section
/-! SUPPORT. The end of the code-density pass (R42, R43): the span of a histogram, its fine table entry by entry, and what
the end of the span and table computation does in each case. -/

namespace Sys2Proof.Machine

/-! ### The span (R42) -/

/-- The lowest and the highest code hit of a histogram (R42). -/
structure HitSpan (histogram : List Nat) (low high : Nat) : Prop where
  low_le_high : low ≤ high
  high_lt_length : high < histogram.length
  low_hit : 0 < histogram.getD low 0
  high_hit : 0 < histogram.getD high 0
  outside_unhit : ∀ code, code < low ∨ high < code → histogram.getD code 0 = 0

theorem spanLowOf_eq {histogram : List Nat} {low high : Nat} (span : HitSpan histogram low high) :
    spanLowOf histogram = low := by
  have inside : low < histogram.length := span.low_le_high.trans_lt span.high_lt_length
  refine (List.findIdx_eq inside).mpr ⟨?_, fun code below => ?_⟩
  · simpa [inside] using span.low_hit
  · simpa [below.trans inside] using span.outside_unhit code (.inl below)

/-- The search from the end stops at the highest code hit. -/
theorem findIdx_reverse_eq {histogram : List Nat} {low high : Nat} (span : HitSpan histogram low high) :
    (histogram.reverse.findIdx fun h => decide (0 < h)) = histogram.length - 1 - high := by
  have inside := span.high_lt_length
  refine (List.findIdx_eq (by rw [List.length_reverse]; omega)).mpr ⟨?_, fun back before => ?_⟩
  · have atHigh : histogram.length - 1 - (histogram.length - 1 - high) = high := by omega
    simpa [atHigh, inside] using span.high_hit
  · have code_lt : histogram.length - 1 - back < histogram.length := by omega
    simpa [code_lt] using span.outside_unhit (histogram.length - 1 - back) (.inr (by omega))

theorem spanHighOf_eq {histogram : List Nat} {low high : Nat} (span : HitSpan histogram low high) :
    spanHighOf histogram = high := by
  have inside := span.high_lt_length
  rw [spanHighOf, findIdx_reverse_eq span]
  omega

/-! ### The fine table (R43) -/

theorem buildTable_length (histogram : List Nat) : (buildTable histogram).length = 256 := by
  simp [buildTable]

theorem buildTable_getD {histogram : List Nat} {low high code : Nat} (span : HitSpan histogram low high)
    (hcode : code < 256) :
    (buildTable histogram).getD code 0 =
      if code < low then 0 else if high < code then 4095
      else min 4095 ((2 * (histogram.take code).sum + histogram.getD code 0 + 16) / 32) := by
  rw [List.getD_eq_getElem _ _ (by rwa [buildTable_length])]
  simp only [buildTable, List.getElem_map, List.getElem_range, spanLowOf_eq span, spanHighOf_eq span]

/-- The hits below the next code are the hits below a code and its own. -/
theorem sum_take_succ_getD (histogram : List Nat) (code : Nat) :
    (histogram.take (code + 1)).sum = (histogram.take code).sum + histogram.getD code 0 := by
  by_cases inside : code < histogram.length
  · rw [List.sum_take_succ _ _ inside, List.getD_eq_getElem _ _ inside]
  · rw [List.take_of_length_le (by omega), List.take_of_length_le (by omega),
      List.getD_eq_default _ _ (by omega), Nat.add_zero]

/-- The next code's middle 2C' + H', with C' = C + H, is not below 2C + H. -/
theorem buildTable_getD_le_succ {histogram : List Nat} {low high code : Nat} (span : HitSpan histogram low high)
    (hcode : code < 255) : (buildTable histogram).getD code 0 ≤ (buildTable histogram).getD (code + 1) 0 := by
  rw [buildTable_getD span (by omega), buildTable_getD span (by omega), sum_take_succ_getD]
  by_cases below : code < low
  · rw [if_pos below]
    exact Nat.zero_le _
  by_cases above : high < code + 1
  · rw [if_neg (by omega : ¬code + 1 < low), if_pos above]
    split_ifs <;> omega
  · rw [if_neg below, if_neg (by omega), if_neg (by omega), if_neg above]
    exact min_le_min_left _ (Nat.div_le_div_right (by omega))

/-- Settles O23: the span of the table is the given one, so each entry is R43's, and in the span the doubled middles grow. -/
theorem fineTableFollowsTheHistogram : Obligations.FineTableFollowsTheHistogram := by
  unfold Obligations.FineTableFollowsTheHistogram
  intro histogram low high length_eq le lt lowHit highHit outside
  have span : HitSpan histogram low high := ⟨le, length_eq ▸ lt, lowHit, highHit, outside⟩
  exact ⟨buildTable_length histogram, fun _ => buildTable_getD span, fun _ => buildTable_getD_le_succ span⟩

/-! ### The tests of the span, in order (R42) -/

theorem spanFault_of_narrow {histogram : List Nat} {low high : Nat} (span : HitSpan histogram low high)
    (narrow : high - low + 1 < 128) : spanFault histogram = some .narrowRange := by
  simp only [spanFault, spanLowOf_eq span, spanHighOf_eq span, if_pos narrow]

theorem spanFault_of_wideCode {histogram : List Nat} {low high : Nat} (span : HitSpan histogram low high)
    (wide : 128 ≤ high - low + 1) (code : ∃ h ∈ histogram, 262144 < h * (high - low + 1)) :
    spanFault histogram = some .wideCode := by
  have found : (histogram.any fun h => decide (262144 < h * (high - low + 1))) = true := by
    simpa only [List.any_eq_true, decide_eq_true_eq] using code
  simp only [spanFault, spanLowOf_eq span, spanHighOf_eq span, if_neg (Nat.not_lt.mpr wide), if_pos found]

theorem spanFault_of_even {histogram : List Nat} {low high : Nat} (span : HitSpan histogram low high)
    (wide : 128 ≤ high - low + 1) (even : ∀ h ∈ histogram, h * (high - low + 1) ≤ 262144) :
    spanFault histogram = none := by
  have notFound : ¬(histogram.any fun h => decide (262144 < h * (high - low + 1))) = true := by
    simpa only [List.any_eq_true, decide_eq_true_eq, not_exists, not_and, Nat.not_lt] using even
  simp only [spanFault, spanLowOf_eq span, spanHighOf_eq span, if_neg (Nat.not_lt.mpr wide), if_neg notFound]

/-! ### The end of the span and table computation (R42 to R44) -/

theorem exec_codeDensityPassEnd (g : Group) (s : State) : exec (.codeDensityPassEnd g) s = .next (endCodeDensity g s) :=
  rfl

/-- A span that fails a test ends the calibration with the test's cause, and the record keeps the span (R42, R49). -/
theorem endCodeDensity_of_fault {g : Group} {ctx : SectionContext} {low high : Nat} {cause : FailCause} {s : State}
    (busy : sectionOf s g = .busy ctx) (pass : ctx.pass = .codeDensity) (full : ctx.hits = 65536)
    (span : HitSpan ctx.histogram low high) (fault : spanFault ctx.histogram = some cause) :
    endCodeDensity g s = endCalibration g ctx.channel (.failed cause (some (low, high)) none) s := by
  have context : sectionContext s g = some ctx := by simp only [sectionContext, busy]
  have complete : ctx.pass = .codeDensity ∧ ctx.hits = histogramSize := ⟨pass, full⟩
  simp only [endCodeDensity, context, if_pos complete, fault, spanLowOf_eq span, spanHighOf_eq span]

/-- A span that passes both tests starts the floor pass (R44). -/
theorem endCodeDensity_of_no_fault {g : Group} {ctx : SectionContext} {s : State}
    (busy : sectionOf s g = .busy ctx) (pass : ctx.pass = .codeDensity) (full : ctx.hits = 65536)
    (fault : spanFault ctx.histogram = none) : endCodeDensity g s = startFloorPass g ctx s := by
  have context : sectionContext s g = some ctx := by simp only [sectionContext, busy]
  have complete : ctx.pass = .codeDensity ∧ ctx.hits = histogramSize := ⟨pass, full⟩
  simp only [endCodeDensity, context, if_pos complete, fault]

/-- The floor pass keeps the span and its table, and settles for 8,000 ticks (R33, R44). -/
theorem startFloorPass_eq {g : Group} {ctx : SectionContext} {low high : Nat} {s : State}
    (span : HitSpan ctx.histogram low high) :
    startFloorPass g ctx s = setChannel ctx.channel
      { channelOfState s ctx.channel with selector := .refLoop, ratio := 1, state := .calibrating }
      (setSection g (.busy { ctx with
        pass := .floor, spanLow := low, spanHigh := high, table := buildTable ctx.histogram, timestamps := []
        settlingEnd := s.timebase.coarse + 8000, settled := false, nextIndex := -2, previous := none
        deadline := none }) s) := by
  rw [← spanLowOf_eq span, ← spanHighOf_eq span]
  rfl

/-- Settles O22: the span found is the given one, and the three cases of the statement are the three answers of its tests. -/
theorem codeDensityPassEndJudgesTheSpan : Obligations.CodeDensityPassEndJudgesTheSpan := by
  unfold Obligations.CodeDensityPassEndJudgesTheSpan
  intro g ctx low high s busy pass full length_eq le lt lowHit highHit outside
  have span : HitSpan ctx.histogram low high := ⟨le, length_eq ▸ lt, lowHit, highHit, outside⟩
  rw [exec_codeDensityPassEnd]
  refine ⟨fun narrow => ?_, fun wide code => ?_, fun wide even => ?_⟩
  · rw [endCodeDensity_of_fault busy pass full span (spanFault_of_narrow span narrow)]
    rfl
  · rw [endCodeDensity_of_fault busy pass full span (spanFault_of_wideCode span wide code)]
    rfl
  · rw [endCodeDensity_of_no_fault busy pass full (spanFault_of_even span wide even), startFloorPass_eq span]

end Sys2Proof.Machine
end

section
/-! SUPPORT. JOB_STATUS (R76): which bytes name a site, the place of an entry in a list, and the bytes answered in each part
of a job's life. -/

namespace Sys2Proof.Machine

/-! ### Bytes that name a site (R188) -/

theorem siteOf_siteCode (site : Site) : siteOf (siteCode site) = some site := by
  have inRange : (siteCode site).toNat = site.val := toNat_byteOfNat (by omega)
  simp [siteOf, inRange]

theorem siteOf_eq_none_iff (b : Byte) : siteOf b = none ↔ 16 ≤ b.toNat := by
  simp [siteOf]

/-! ### Places in the queues -/

/-- The search of a list stops at the first hit, whose index is the number of items before it. -/
theorem findIdx?_append_cons_of_first {α : Type} {p : α → Bool} {before after : List α} {x : α}
    (missed : ∀ y ∈ before, p y = false) (hit : p x = true) :
    (before ++ x :: after).findIdx? p = some before.length := by
  rw [List.findIdx?_append, List.findIdx?_eq_none_iff.mpr missed, List.findIdx?_cons, if_pos hit]
  simp

theorem queuePositionByte_of_first {s : State} {j : Job} {before after : List Entry}
    (queue : queueOf s (groupOfSite j.site) = before ++ .job j.id j.site :: after)
    (first : Entry.job j.id j.site ∉ before) : queuePositionByte s j = byteOfNat (before.length + 1) := by
  have missed : ∀ e ∈ before, decide (e = .job j.id j.site) = false := fun e he =>
    decide_eq_false fun same => first (same ▸ he)
  rw [queuePositionByte, queue, findIdx?_append_cons_of_first missed (decide_eq_true rfl)]

theorem itemPositionByte_of_first {s : State} {j : Job} {before after : List Item} {item : Item}
    (queue : s.analysisQueue = before ++ item :: after) (own : item.job = j.id)
    (first : ∀ other ∈ before, other.job ≠ j.id) : itemPositionByte s j = byteOfNat (before.length + 1) := by
  have missed : ∀ other ∈ before, (other.job == j.id) = false := fun other ho => beq_false_of_ne (first other ho)
  rw [itemPositionByte, queue, findIdx?_append_cons_of_first missed (beq_iff_eq.mpr own)]

/-! ### The bytes of the reply (section 11.10) -/

/-- The two channel bytes of a job: the channels it was dispatched to, FFh for each one it lacks (R189). -/
def dispatchedBytes : List ChannelId → List Byte
  | [] => [0xFF, 0xFF]
  | [c] => [channelCode c, 0xFF]
  | c :: d :: _ => [channelCode c, channelCode d]

theorem dispatchedBytes_eq (cs : List ChannelId) :
    dispatchedBytes cs = [(cs[0]?.map channelCode).getD absentByte, (cs[1]?.map channelCode).getD absentByte] := by
  match cs with
  | [] => rfl
  | [_] => rfl
  | _ :: _ :: _ => rfl

/-- The items of a JOB_STATUS reply with the group, the queue position and the place in the analysis queue left open. -/
def jobStatusItems (j : Job) (group position place : Byte) : List Byte :=
  bytes16OfNat j.id ++ bytes32 j.hostTag ++ [modeCode j.mode, jobStateCode j.state] ++ bytes16OfNat j.prescale
  ++ [byteOfBool j.adjusted] ++ bytes32OfNat j.length
  ++ [triggerFieldCode j.trigger, (match j.limit with
      | some index => byteOfNat index.val
      | none => 0xFF), group, position]
  ++ dispatchedBytes j.channels ++ [place]

/-- The reply is made of its open items: the group and the position while the job waits, the place in ANALYSIS_WAIT. -/
theorem jobStatusBytes_eq (s : State) (j : Job) :
    jobStatusBytes s j = jobStatusItems j
      (if isWaiting j.state then groupCode (groupOfSite j.site) else 0xFF)
      (if isWaiting j.state then queuePositionByte s j else 0xFF)
      (if j.state = .analysisWait then itemPositionByte s j else 0xFF) := by
  rw [jobStatusItems, dispatchedBytes_eq, List.append_assoc, List.append_assoc]
  rfl

theorem jobStatusBytes_of_waiting (s : State) {j : Job} (waiting : j.state = .held ∨ j.state = .queued) :
    jobStatusBytes s j = jobStatusItems j (groupCode (groupOfSite j.site)) (queuePositionByte s j) 0xFF := by
  rw [jobStatusBytes_eq]
  obtain held | queued := waiting
  · simp [held, isWaiting]
  · simp [queued, isWaiting]

theorem jobStatusBytes_of_engaged (s : State) {j : Job}
    (engaged : j.state = .settling ∨ j.state = .capturing ∨ j.state = .analysing) :
    jobStatusBytes s j = jobStatusItems j 0xFF 0xFF 0xFF := by
  rw [jobStatusBytes_eq]
  obtain settling | capturing | analysing := engaged
  · simp [settling, isWaiting]
  · simp [capturing, isWaiting]
  · simp [analysing, isWaiting]

theorem jobStatusBytes_of_analysisWait (s : State) {j : Job} (waits : j.state = .analysisWait) :
    jobStatusBytes s j = jobStatusItems j 0xFF 0xFF (itemPositionByte s j) := by
  rw [jobStatusBytes_eq]
  simp [waits, isWaiting]

/-! ### What the owner of JOB_STATUS answers (R76) -/

theorem serveJobStatus_of_bad_site {site : Byte} (s : State) (bad : 16 ≤ site.toNat) :
    serveJobStatus site s = (badField 1, s) := by
  simp only [serveJobStatus, (siteOf_eq_none_iff site).mpr bad]

theorem serveJobStatus_of_no_job {site : Site} {s : State} (noJob : jobAt s site = none) :
    serveJobStatus (siteCode site) s = (refusal .noJob, s) := by
  simp only [serveJobStatus, siteOf_siteCode, noJob]

theorem serveJobStatus_of_live_job {site : Site} {s : State} {j : Job} (live : jobAt s site = some j) :
    serveJobStatus (siteCode site) s = (okReply (jobStatusBytes s j), s) := by
  simp only [serveJobStatus, siteOf_siteCode, live]

/-- JOB_STATUS changes nothing (R76). -/
theorem serveJobStatus_snd (site : Byte) (s : State) : (serveJobStatus site s).2 = s := by
  unfold serveJobStatus
  split
  · rfl
  · split <;> rfl

/-- The answer of JOB_STATUS does not depend on the receiver. -/
theorem serveJobStatus_fst_setReceiver (site : Byte) (r : Receiver) (s : State) :
    (serveJobStatus site (setReceiver r s)).1 = (serveJobStatus site s).1 := by
  have sameJob : ∀ a, jobAt (setReceiver r s) a = jobAt s a := fun _ => rfl
  unfold serveJobStatus
  split
  · rfl
  · rw [sameJob]
    split <;> rfl

/-! ### The command -/

/-- A JOB_STATUS that finds the server ready gets its owner's answer, and the part is otherwise unchanged (R76, R176). -/
theorem exec_jobStatus_answers {s : State} (tag site : Byte) (ready : Ready s) :
    exec (.jobStatus tag site) s = .next (answered 0x8D tag (serveJobStatus site s).1 s) := by
  have readsBack : readRequest 0x0D (requestPayload (.jobStatus site)) = some (.jobStatus site) := by
    simp [readRequest, readShort, requestPayload]
  have served : serveJobStatus site (setReceiver .hunt s) = ((serveJobStatus site s).1, setReceiver .hunt s) :=
    Prod.ext (serveJobStatus_fst_setReceiver site .hunt s) (serveJobStatus_snd site _)
  exact congrArg Host.Outcome.next
    (receiveFrame_answers (tag := tag) ready readsBack (by simp [requestPayload]) (by simp) served)

theorem exec_jobStatus_of_live_job {s : State} {site : Site} {j : Job} (tag : Byte) (ready : Ready s)
    (live : jobAt s site = some j) :
    exec (.jobStatus tag (siteCode site)) s = .next (answered 0x8D tag (okReply (jobStatusBytes s j)) s) := by
  rw [exec_jobStatus_answers _ _ ready, serveJobStatus_of_live_job live]

/-- Settles O34: the server is ready, so the reply is that of the request's owner, whose cases are a byte that names no site,
a site without a live job, and a live job that waits in its group queue, is engaged, or waits for analysis. -/
theorem jobStatusAnswersTheLiveJob : Obligations.JobStatusAnswersTheLiveJob := by
  unfold Obligations.JobStatusAnswersTheLiveJob
  refine ⟨fun tag site s ready bad => ?_, fun tag site s ready => ⟨fun noJob => ?_, ?_⟩⟩
  · rw [exec_jobStatus_answers _ _ ready, serveJobStatus_of_bad_site s bad]
    rfl
  · rw [exec_jobStatus_answers _ _ ready, serveJobStatus_of_no_job noJob]
    rfl
  · rintro j live rfl
    refine ⟨fun before after waiting queue first => ?_, fun engaged => ?_,
      fun before item after waits queue own first => ?_⟩
    all_goals rw [exec_jobStatus_of_live_job tag ready live]
    · rw [jobStatusBytes_of_waiting s waiting, queuePositionByte_of_first queue first]
      rfl
    · rw [jobStatusBytes_of_engaged s engaged]
      rfl
    · rw [jobStatusBytes_of_analysisWait s waits, itemPositionByte_of_first queue own first]
      rfl

end Sys2Proof.Machine
end

section
/-! SUPPORT. TRIGGER_CONFIG, TRIGGER_ARM and TRIGGER_DISARM (R84, R85): what the requests' owner answers in each case, and
that a server that is ready passes its answer on. -/

namespace Sys2Proof.Machine

/-! ### What the owner of TRIGGER_CONFIG answers (R84) -/

theorem serveTriggerConfig_of_bad_polarity {polarity : Byte} (s : State) (bad : 2 ≤ polarity.toNat) :
    serveTriggerConfig polarity s = (badField 1, s) := by
  simp only [serveTriggerConfig, (edgeOf_eq_none_iff polarity).mpr bad]

theorem serveTriggerConfig_of_armed {s : State} (polarity : Edge) (armed : s.trigger.state = .armed) :
    serveTriggerConfig (edgeCode polarity) s = (refusal .triggerArmed, s) := by
  simp only [serveTriggerConfig, edgeOf_edgeCode, armed]

/-- The polarity already set is set to itself, and the qualification goes on; a new one abandons it. -/
theorem serveTriggerConfig_of_disarmed {s : State} (polarity : Edge) (disarmed : s.trigger.state = .disarmed) :
    serveTriggerConfig (edgeCode polarity) s = (okReply [edgeCode polarity],
      { s with trigger :=
          { s.trigger with
            polarity, qualification := if polarity = s.trigger.polarity then s.trigger.qualification else none } }) := by
  simp only [serveTriggerConfig, edgeOf_edgeCode, disarmed]
  by_cases same : polarity = s.trigger.polarity
  · subst same
    rw [if_pos rfl, if_pos rfl, ← disarmed]
  · rw [if_neg same, if_neg same]

/-- The owner of TRIGGER_CONFIG neither reads nor writes the receiver. -/
theorem serveTriggerConfig_setReceiver (polarity : Byte) (r : Receiver) (s : State) :
    serveTriggerConfig polarity (setReceiver r s) =
      ((serveTriggerConfig polarity s).1, setReceiver r (serveTriggerConfig polarity s).2) := by
  have sameTrigger : (setReceiver r s).trigger = s.trigger := rfl
  unfold serveTriggerConfig
  rw [sameTrigger]
  split
  · rfl
  · split
    · rfl
    · split <;> rfl

/-! ### The commands -/

/-- A TRIGGER_CONFIG that finds the server ready gets its owner's answer (R176). -/
theorem exec_triggerConfig_answers {s : State} (tag polarity : Byte) (ready : Ready s) :
    exec (.triggerConfig tag polarity) s =
      .next (answered 0x8F tag (serveTriggerConfig polarity s).1 (serveTriggerConfig polarity s).2) :=
  congrArg Host.Outcome.next
    (receiveFrame_answers (tag := tag) ready rfl (by simp [requestPayload]) (by simp)
      (serveTriggerConfig_setReceiver polarity .hunt s))

theorem exec_triggerArm_answers {s : State} (tag : Byte) (ready : Ready s) :
    exec (.triggerArm tag) s =
      .next (answered 0x90 tag (serveTriggerState .armed s).1 (serveTriggerState .armed s).2) :=
  congrArg Host.Outcome.next
    (receiveFrame_answers (tag := tag) ready rfl (by simp [requestPayload]) (by simp) rfl)

theorem exec_triggerDisarm_answers {s : State} (tag : Byte) (ready : Ready s) :
    exec (.triggerDisarm tag) s =
      .next (answered 0x91 tag (serveTriggerState .disarmed s).1 (serveTriggerState .disarmed s).2) :=
  congrArg Host.Outcome.next
    (receiveFrame_answers (tag := tag) ready rfl (by simp [requestPayload]) (by simp) rfl)

/-- Settles O31: the server is ready, so the reply and the next state are those of the request's owner. TRIGGER_CONFIG has
three cases, a byte that names no polarity, an ARMED and a DISARMED trigger; TRIGGER_ARM and TRIGGER_DISARM have one each. -/
theorem triggerRequestsSetTheTrigger : Obligations.TriggerRequestsSetTheTrigger := by
  unfold Obligations.TriggerRequestsSetTheTrigger
  refine ⟨fun tag polarity s ready bad => ?_,
    fun tag polarity s ready => ⟨fun armed => ?_, fun disarmed => ?_, ?_, ?_⟩⟩
  · rw [exec_triggerConfig_answers tag polarity ready, serveTriggerConfig_of_bad_polarity s bad]
    rfl
  · rw [exec_triggerConfig_answers tag _ ready, serveTriggerConfig_of_armed polarity armed]
    rfl
  · rw [exec_triggerConfig_answers tag _ ready, serveTriggerConfig_of_disarmed polarity disarmed]
    rfl
  · rw [exec_triggerArm_answers tag ready]
    rfl
  · rw [exec_triggerDisarm_answers tag ready]
    rfl

end Sys2Proof.Machine
end

section
/-! SUPPORT. The roundings of the Conventions, and the fitted line and the TIE sequence formed with them (R98 to R101). -/

namespace Sys2Proof.Machine

/-! ### The roundings of the Conventions -/

/-- The exact value is at least half below the rounded one, and less than half above it. -/
theorem roundTiesUp_bounds (num : Int) {den : Nat} (pos : 0 < den) :
    (2 * roundTiesUp num den - 1) * den ≤ 2 * num ∧ 2 * num < (2 * roundTiesUp num den + 1) * den := by
  have posInt : (0 : Int) < 2 * den := by omega
  have division : 2 * (den : Int) * roundTiesUp num den + (2 * num + den) % (2 * den) = 2 * num + den :=
    Int.mul_ediv_add_emod ..
  have rest_nonneg := Int.emod_nonneg (2 * num + den) posInt.ne'
  have rest_lt := Int.emod_lt_of_pos (2 * num + den) posInt
  constructor <;> linarith

/-- Up is away from zero for a number that is not negative: its ties lie below the rounded value. -/
theorem roundTiesUp_error_of_nonneg {num : Int} {den : Nat} (pos : 0 < den) (nonneg : 0 ≤ num) :
    2 * |num - roundTiesUp num den * den| ≤ den ∧
      (2 * |num - roundTiesUp num den * den| = den → |num| < |roundTiesUp num den * den|) := by
  obtain ⟨low, high⟩ := roundTiesUp_bounds num pos
  rw [sub_one_mul, mul_assoc] at low
  rw [add_one_mul, mul_assoc] at high
  generalize roundTiesUp num den * den = rounded at *
  refine ⟨?_, fun tie => ?_⟩
  · cases abs_cases (num - rounded) <;> omega
  · have above : num < rounded := by cases abs_cases (num - rounded) <;> omega
    rwa [abs_of_nonneg nonneg, abs_of_nonneg (nonneg.trans above.le)]

/-- A negative number is rounded as its mirror image. -/
theorem roundTiesAway_error (num : Int) {den : Nat} (pos : 0 < den) :
    2 * |num - roundTiesAway num den * den| ≤ den ∧
      (2 * |num - roundTiesAway num den * den| = den → |num| < |roundTiesAway num den * den|) := by
  unfold roundTiesAway
  split
  case isTrue nonneg => exact roundTiesUp_error_of_nonneg pos nonneg
  case isFalse negative =>
    have mirror : num - -roundTiesUp (-num) den * den = -(-num - roundTiesUp (-num) den * den) := by ring
    rw [mirror, neg_mul, abs_neg, abs_neg, ← abs_neg num]
    exact roundTiesUp_error_of_nonneg pos (by omega)

/-- The error of `roundTiesAway_error`, divided by the denominator. -/
theorem roundTiesAway_nearest (num : Int) {den : Nat} (pos : 0 < den) :
    2 * |(roundTiesAway num den : ℚ) - num / den| ≤ 1 ∧
      (2 * |(roundTiesAway num den : ℚ) - num / den| = 1 → |(num / den : ℚ)| < |(roundTiesAway num den : ℚ)|) := by
  obtain ⟨near, tie⟩ := roundTiesAway_error num pos
  have posRat : (0 : ℚ) < den := by exact_mod_cast pos
  have value : (num / den : ℚ) * den = num := div_mul_cancel₀ _ posRat.ne'
  have error : 2 * |(roundTiesAway num den : ℚ) - num / den| * den = (2 * |num - roundTiesAway num den * den| : Int) := by
    rw [mul_assoc, ← abs_of_pos posRat, ← abs_mul, abs_of_pos posRat, sub_mul, value, abs_sub_comm]
    push_cast
    rfl
  refine ⟨?_, fun half => ?_⟩
  · rw [← mul_le_mul_iff_left₀ posRat, error, one_mul]
    exact_mod_cast near
  · rw [half, one_mul] at error
    rw [← mul_lt_mul_iff_left₀ posRat, ← abs_of_pos posRat, ← abs_mul, ← abs_mul, abs_of_pos posRat, value]
    exact_mod_cast tie (by exact_mod_cast error.symm)

/-! ### Sums of integers -/

theorem sumInt_eq_sum (l : List Int) : sumInt l = l.sum :=
  List.sum_eq_foldl.symm

theorem sum_eq_sum_range_getD (l : List Int) : l.sum = ∑ k ∈ Finset.range l.length, l.getD k 0 := by
  rw [Finset.sum_range, ← Fin.sum_univ_getElem]
  exact Finset.sum_congr rfl fun k _ => (List.getD_eq_getElem l 0 k.isLt).symm

/-! ### The fitted line and the TIE sequence (R98, R101) -/

/-- The mean interval is the span in su over N − 1, ties up (R98). -/
theorem meanInterval_bounds {t : List Timestamp} (two : 2 ≤ t.length) :
    (2 * meanInterval t - 1) * ((t.length : Int) - 1) ≤ 2 * ((t.getLastD 0 - t.headD 0).toNat * 256) ∧
      2 * ((t.getLastD 0 - t.headD 0).toNat * 256) < (2 * meanInterval t + 1) * ((t.length : Int) - 1) := by
  have intervals : ((t.length - 1 : Nat) : Int) = t.length - 1 := by omega
  rw [← intervals]
  exact roundTiesUp_bounds (spanOf t * 256) (by omega)

@[simp] theorem residuals_length (t : List Timestamp) : (residuals t).length = t.length := by
  simp [residuals]

@[simp] theorem tieOf_length (t : List Timestamp) : (tieOf t).length = t.length := by
  simp [tieOf]

/-- The residual of a timestamp is its distance from the line of the mean interval (R101 step 1). -/
theorem residuals_getD {t : List Timestamp} {k : Nat} (lt : k < t.length) :
    (residuals t).getD k 0 = (t.getD k 0 - t.headD 0).toNat * 256 - k * meanInterval t := by
  simp [residuals, forwardDifference, lt]

/-- A member of the TIE sequence is its residual less the mean (R101 step 3). -/
theorem tieOf_getD {t : List Timestamp} {k : Nat} (lt : k < t.length) :
    (tieOf t).getD k 0 = (residuals t).getD k 0 - residualMean t := by
  simp [tieOf, lt]

theorem residuals_sum (t : List Timestamp) :
    (residuals t).sum = ∑ k ∈ Finset.range t.length,
      (((t.getD k 0 - t.headD 0).toNat * 256 - k * meanInterval t : Int)) := by
  rw [sum_eq_sum_range_getD, residuals_length]
  exact Finset.sum_congr rfl fun k mem => residuals_getD (Finset.mem_range.mp mem)

theorem tieOf_sum (t : List Timestamp) : (tieOf t).sum = (residuals t).sum - residualMean t * t.length := by
  rw [sum_eq_sum_range_getD, sum_eq_sum_range_getD, tieOf_length, residuals_length,
    Finset.sum_congr rfl fun k mem => tieOf_getD (Finset.mem_range.mp mem), Finset.sum_sub_distrib, Finset.sum_const,
    Finset.card_range, nsmul_eq_mul, mul_comm]

/-- The mean is the residuals' sum over N, ties away from zero (R101 step 2). -/
theorem residualMean_error {t : List Timestamp} (pos : 0 < t.length) :
    2 * |(residuals t).sum - residualMean t * t.length| ≤ t.length ∧
      (2 * |(residuals t).sum - residualMean t * t.length| = t.length →
        |(residuals t).sum| < |residualMean t * t.length|) := by
  rw [← sumInt_eq_sum]
  exact roundTiesAway_error (sumInt (residuals t)) pos

/-! ### The frequency offset (R99) -/

/-- 10⁹ × (e / b − 1) as the one fraction that is rounded. -/
theorem idealOffset_eq_div {mean : Int} {fNom : Nat} (prescale : Nat) (meanPos : 0 < mean) (fNomPos : 0 < fNom) :
    (10 ^ 9 * ((419430400000000 * prescale : ℚ) / fNom / mean - 1) : ℚ) =
      (1000000000 * (419430400000000 * (prescale : Int) - mean * fNom) : Int) / ((mean * fNom).toNat : Nat) := by
  have meanRat : (mean : ℚ) ≠ 0 := by exact_mod_cast meanPos.ne'
  have fNomRat : (fNom : ℚ) ≠ 0 := by exact_mod_cast fNomPos.ne'
  have den : (((mean * fNom).toNat : Nat) : ℚ) = mean * fNom := by
    exact_mod_cast Int.toNat_of_nonneg (by positivity : 0 ≤ mean * fNom)
  rw [den]
  push_cast
  field_simp
  ring

/-- Settles O45: the mean interval, the mean of the residuals and the frequency offset are one rounding each of the exact
quotient, and the sum of the TIE sequence is what the rounding of the mean leaves of the residuals' sum. -/
theorem fittedLineAndTieSequence : Obligations.FittedLineAndTieSequence := by
  unfold Obligations.FittedLineAndTieSequence
  refine ⟨fun t two => ?_, fun mean fNom prescale meanPos fNomPos => ?_⟩
  · obtain ⟨near, tie⟩ := residualMean_error (t := t) (by omega)
    refine ⟨meanInterval_bounds two, tieOf_length t, ⟨residualMean t, ?_, ?_, fun k lt => ?_⟩, ?_⟩
    · rwa [← residuals_sum]
    · rwa [← residuals_sum]
    · rw [tieOf_getD lt, residuals_getD lt]
    · rwa [tieOf_sum]
  · have denPos : 0 < (mean * fNom).toNat := by
      have : 0 < mean * fNom := by positivity
      omega
    intro ideal offset
    rw [show ideal = _ from idealOffset_eq_div prescale meanPos fNomPos]
    exact roundTiesAway_nearest _ denPos

end Sys2Proof.Machine
end

section
/-! SUPPORT. The verdict rule (R147 to R150): which figures fail or are missing, and what the rule decides in each case. -/

namespace Sys2Proof.Machine

/-! ### Figures in the order of R150 -/

theorem mem_figureOrder (name : FigureName) : name ∈ figureOrder := by
  cases name <;> decide

theorem pairwise_figureOrder : figureOrder.Pairwise fun a b => figureIndex a < figureIndex b := by
  decide

/-- The names chosen from the order are headed by the least of them. -/
theorem filter_figureOrder_of_first {p : FigureName → Bool} {first : FigureName} (hit : p first = true)
    (missed : ∀ name, figureIndex name < figureIndex first → p name = false) :
    ∃ rest, figureOrder.filter p = first :: rest := by
  have ordered := pairwise_figureOrder.filter p
  have member : first ∈ figureOrder.filter p := List.mem_filter.mpr ⟨mem_figureOrder first, hit⟩
  cases chosen : figureOrder.filter p with
  | nil => simp [chosen] at member
  | cons head rest =>
    rw [chosen] at member ordered
    have headHit : p head = true := (List.mem_filter.mp (chosen ▸ List.mem_cons_self)).2
    obtain rfl | later := List.mem_cons.mp member
    · exact ⟨rest, rfl⟩
    · have before : figureIndex head < figureIndex first := List.rel_of_pairwise_cons ordered later
      simp [missed head before] at headHit

/-! ### Limits, failing and missing figures -/

theorem aboveLimit_iff (limit : Option Int) (value : Int) :
    aboveLimit limit value = true ↔ ∃ l, limit = some l ∧ l < value := by
  cases limit <;> simp [aboveLimit]

theorem belowLimit_iff (limit : Option Int) (value : Int) :
    belowLimit limit value = true ↔ ∃ l, limit = some l ∧ value < l := by
  cases limit <;> simp [belowLimit]

/-- The maxima stand in figure order, from the figure after FREQ_OFFSET on (R135). -/
theorem maximumOf_eq (e : LimitSet) (name : FigureName) :
    maximumOf e name = if name = .freqOffset then none else (e.maxima[(figureIndex name).val - 1]?).join := by
  cases name <;> rfl

/-- A figure fails when it is present and beyond a limit that the entry holds (R148, R149). -/
theorem figureFails_iff (e : LimitSet) (figures : Figures) (name : FigureName) :
    figureFails e figures name = true ↔ ∃ value, (figures[figureIndex name]).value = some value ∧
      if name = .freqOffset then
        (∃ l, e.offsetMin = some l ∧ value < l) ∨ ∃ l, e.offsetMax = some l ∧ l < value
      else ∃ l, maximumOf e name = some l ∧ l < value := by
  unfold figureFails figureOf
  cases (figures[figureIndex name]).value with
  | none => simp
  | some value =>
    simp only [Option.some.injEq, exists_eq_left', ← aboveLimit_iff, ← belowLimit_iff, ← Bool.or_eq_true]
    cases name <;> rfl

/-- A figure is missing when it is absent and the entry holds a limit for it (R149). -/
theorem figureMissing_iff (e : LimitSet) (figures : Figures) (name : FigureName) :
    figureMissing e figures name = true ↔ (figures[figureIndex name]).value = none ∧
      if name = .freqOffset then e.offsetMin ≠ none ∨ e.offsetMax ≠ none else maximumOf e name ≠ none := by
  have checked : isChecked e name = true ↔
      if name = .freqOffset then e.offsetMin ≠ none ∨ e.offsetMax ≠ none else maximumOf e name ≠ none := by
    cases name <;> simp [isChecked, Option.isSome_iff_ne_none]
  rw [figureMissing, Bool.and_eq_true, checked, Option.isNone_iff_eq_none, and_comm]
  rfl

/-! ### What the rule decides -/

/-- The figures are compared under COMPLETE and OFF_NOMINAL, unless the result is stale under policy RETEST (R147). -/
def Compared (e : LimitSet) (status : Ending) (stale : Bool) : Prop :=
  (status = .complete ∨ status = .offNominal) ∧ ¬(stale = true ∧ e.stalePolicy = .retest)

theorem figuresCompared_iff (status : Ending) :
    figuresCompared status = true ↔ status = .complete ∨ status = .offNominal := by
  cases status <;> simp [figuresCompared]

theorem judge_of_compared {e : LimitSet} {status : Ending} {stale : Bool} (figures : Figures)
    (compared : Compared e status stale) : judge (some e) status stale figures = compareFigures e figures := by
  obtain ⟨counted, fresh⟩ := compared
  have counts : figuresCompared status = true := (figuresCompared_iff status).mpr counted
  have notStale : ¬(stale && decide (e.stalePolicy = .retest)) = true := by simpa using fresh
  simp only [judge, counts, Bool.not_true, Bool.false_eq_true, if_false, if_neg notStale]

theorem judge_of_not_compared {e : LimitSet} {status : Ending} {stale : Bool} (figures : Figures)
    (notCompared : ¬Compared e status stale) : judge (some e) status stale figures = retestJudgement e := by
  cases counts : figuresCompared status with
  | false => simp only [judge, counts, Bool.not_false, if_true]
  | true =>
    have isStale : (stale && decide (e.stalePolicy = .retest)) = true := by
      simpa [Compared, (figuresCompared_iff status).mp counts] using notCompared
    simp only [judge, isStale, if_true, ite_self]

theorem filter_figureFails_eq_nil {e : LimitSet} {figures : Figures}
    (noneFails : ∀ name, figureFails e figures name = false) : figureOrder.filter (figureFails e figures) = [] :=
  List.filter_eq_nil_iff.mpr fun name _ => by simp [noneFails name]

theorem compareFigures_of_missing {e : LimitSet} {figures : Figures}
    (noneFails : ∀ name, figureFails e figures name = false) (missing : ∃ name, figureMissing e figures name = true) :
    compareFigures e figures = { verdict := .incomplete, failing := [], bin := some e.retestBin } := by
  obtain ⟨name, missing⟩ := missing
  have found : figureOrder.any (figureMissing e figures) = true :=
    List.any_eq_true.mpr ⟨name, mem_figureOrder name, missing⟩
  simp only [compareFigures, filter_figureFails_eq_nil noneFails, if_pos found]

theorem compareFigures_of_pass {e : LimitSet} {figures : Figures}
    (noneFails : ∀ name, figureFails e figures name = false) (noneMissing : ∀ name, figureMissing e figures name = false) :
    compareFigures e figures = { verdict := .pass, failing := [], bin := some e.passBin } := by
  have notFound : ¬figureOrder.any (figureMissing e figures) = true := by simp [noneMissing]
  simp only [compareFigures, filter_figureFails_eq_nil noneFails, if_neg notFound]

/-- The bin is that of the first failing figure, and the set that of all (R150). -/
theorem compareFigures_of_first {e : LimitSet} {figures : Figures} {first : FigureName}
    (fails : figureFails e figures first = true)
    (earlier : ∀ name, figureIndex name < figureIndex first → figureFails e figures name = false) :
    compareFigures e figures =
      { verdict := .fail, failing := figureOrder.filter (figureFails e figures)
        bin := some e.failBins[figureIndex first] } := by
  obtain ⟨rest, failing⟩ := filter_figureOrder_of_first fails earlier
  simp only [compareFigures, failing]

/-- Settles O40: the statement's failing and missing figures are the model's, and its five cases are those of the rule: no
entry, figures that are not compared, a missing figure, none failing or missing, and a first failing figure. -/
theorem verdictRule : Obligations.VerdictRule := by
  unfold Obligations.VerdictRule
  intro e status stale figures above below maximum fails missing compared
  have fails_iff : ∀ name, fails name ↔ figureFails e figures name = true := fun name => by
    rw [figureFails_iff, maximumOf_eq]
  have missing_iff : ∀ name, missing name ↔ figureMissing e figures name = true := fun name => by
    rw [figureMissing_iff, maximumOf_eq]
  have compared_def : compared = Compared e status stale := rfl
  simp only [fails_iff, missing_iff, compared_def, Bool.not_eq_true]
  refine ⟨rfl, judge_of_not_compared figures, fun isCompared noneFails isMissing => ?_,
    fun isCompared noneFails noneMissing => ?_, fun first isCompared firstFails earlier => ?_⟩
  all_goals rw [judge_of_compared figures isCompared]
  · exact compareFigures_of_missing noneFails isMissing
  · exact compareFigures_of_pass noneFails noneMissing
  · refine ⟨_, compareFigures_of_first firstFails earlier, fun name => ?_, ?_⟩
    · rw [List.mem_filter, and_iff_right (mem_figureOrder name)]
    · exact List.pairwise_map.mpr (pairwise_figureOrder.filter _)

end Sys2Proof.Machine
end

section
/-! SUPPORT. The fields of the limit table's requests: how a draft judges them in order, which values are accepted, and that
an accepted LIMIT_WRITE drafts the fields it was written with (R138, R140, R187, R188). -/

namespace Sys2Proof.Machine

/-! ### Fields judged in order (R188) -/

theorem bind_eq_ok_iff {α β : Type} {draft : Except Nat α} {next : α → Except Nat β} {y : β} :
    (draft >>= next) = .ok y ↔ ∃ x, draft = .ok x ∧ next x = .ok y := by
  cases draft with
  | error number => exact ⟨nofun, nofun⟩
  | ok x => exact ⟨fun h => ⟨x, rfl, h⟩, fun ⟨_, same, h⟩ => Except.ok.inj same ▸ h⟩

theorem accept_eq_ok_iff {α : Type} {number : Nat} {value : Option α} {x : α} :
    accept number value = .ok x ↔ value = some x := by
  cases value with
  | none => exact ⟨nofun, nofun⟩
  | some y => exact ⟨fun h => congrArg some (Except.ok.inj h), fun h => congrArg Except.ok (Option.some.inj h)⟩

/-- A draft goes on with the value of a field that is accepted. -/
theorem accept_some_bind {α β : Type} (number : Nat) (x : α) (next : α → Except Nat β) :
    (accept number (some x) >>= next) = next x :=
  rfl

/-- The checks tell, in order, whether a draft's fields are accepted: a draft is refused with the number of the first that
does not hold. -/
def RefusedByFirst {α : Type} (checks : List (Byte × Bool)) (draft : Except Nat α) : Prop :=
  ∀ check, checks.find? (fun check => !check.2) = some check → ∃ number, draft = .error number ∧ byteOfNat number = check.1

theorem refusedByFirst_nil {α : Type} (x : α) : RefusedByFirst [] (.ok x) :=
  nofun

/-- A field joins the checks in front of those of the fields after it. -/
theorem refusedByFirst_accept {α β : Type} {number : Nat} {value : Option α} {next : α → Except Nat β} {holds : Bool}
    {checks : List (Byte × Bool)} (accepted : value.isSome = holds)
    (rest : ∀ x, value = some x → RefusedByFirst checks (next x)) :
    RefusedByFirst ((byteOfNat number, holds) :: checks) (accept number value >>= next) := by
  intro check first
  cases value with
  | none =>
    subst accepted
    obtain rfl : (byteOfNat number, false) = check := Option.some.inj first
    exact ⟨number, rfl, rfl⟩
  | some x =>
    subst accepted
    exact rest x rfl check first

/-! ### The values of single fields -/

theorem limitIndexOf_eq_none_iff (b : Byte) : limitIndexOf b = none ↔ 64 ≤ b.toNat := by
  simp [limitIndexOf]

theorem limitIndexOf_eq_some {b : Byte} {index : Fin 64} (same : index.val = b.toNat) : limitIndexOf b = some index := by
  simp [limitIndexOf, ← same]

theorem limitIndexOf_byteOfNat (index : Fin 64) : limitIndexOf (byteOfNat index.val) = some index :=
  limitIndexOf_eq_some (toNat_byteOfNat (by omega)).symm

theorem isSome_limitIndexOf (b : Byte) : (limitIndexOf b).isSome = decide (b.toNat < 64) := by
  unfold limitIndexOf
  split <;> simp [*]

theorem boolOf_eq_some {b : Byte} (named : b.toNat < 2) : boolOf b = some (decide (b = 1)) := by
  obtain rfl | rfl : b = 0 ∨ b = 1 := by bv_omega
  · rfl
  · rfl

theorem boolOf_eq_none {b : Byte} (unnamed : 2 ≤ b.toNat) : boolOf b = none := by
  have zero : b ≠ 0 := by bv_omega
  have one : b ≠ 1 := by bv_omega
  rw [boolOf, if_neg zero, if_neg one]

theorem isSome_boolOf (b : Byte) : (boolOf b).isSome = decide (b.toNat < 2) := by
  by_cases named : b.toNat < 2
  · rw [boolOf_eq_some named, decide_eq_true named, Option.isSome_some]
  · rw [boolOf_eq_none (Nat.not_lt.mp named), decide_eq_false named, Option.isSome_none]

theorem isSome_countOf (spectral : Bool) (b : Byte) :
    (countOf spectral b).isSome = (decide (b.toNat ≤ 4) && (spectral || decide (b = 0))) := by
  rw [countOf, apply_ite Option.isSome]
  simp

theorem isSome_inRange (low high n : Nat) : (inRange low high n).isSome = (decide (low ≤ n) && decide (n ≤ high)) := by
  rw [inRange, apply_ite Option.isSome]
  simp

/-! ### Values of accepted fields, encoded again (R187) -/

theorem byteOfNat_toNat (b : Byte) : byteOfNat b.toNat = b := by
  simp [byteOfNat]

theorem ofNat32_toNat (field : BitVec 32) : BitVec.ofNat 32 field.toNat = field := by
  simp

theorem byteOfNat_of_limitIndexOf {b : Byte} {index : Fin 64} (read : limitIndexOf b = some index) :
    byteOfNat index.val = b := by
  unfold limitIndexOf at read
  split at read
  · cases read
    exact byteOfNat_toNat b
  · cases read

theorem limitKindCode_of_limitKindOf {b : Byte} {kind : LimitKind} (read : limitKindOf b = some kind) :
    limitKindCode kind = b := by
  unfold limitKindOf at read
  split_ifs at read with time spectral <;> cases read
  · exact time.symm
  · exact spectral.symm

theorem stalePolicyCode_of_stalePolicyOf {b : Byte} {policy : StalePolicy} (read : stalePolicyOf b = some policy) :
    stalePolicyCode policy = b := by
  unfold stalePolicyOf at read
  split_ifs at read with accept retest <;> cases read
  · exact accept.symm
  · exact retest.symm

theorem byteOfBool_of_boolOf {b : Byte} {x : Bool} (read : boolOf b = some x) : byteOfBool x = b := by
  unfold boolOf at read
  split_ifs at read with off on <;> cases read
  · exact off.symm
  · exact on.symm

theorem eq_of_inRange {low high n m : Nat} (read : inRange low high n = some m) : m = n := by
  unfold inRange at read
  split_ifs at read
  exact (Option.some.inj read).symm

theorem isSome_of_lotOf {isLot : Bool} {field : Option (BitVec 32)} {lot : Option Nat} (read : lotOf isLot field = some lot) :
    lot.isSome = isLot := by
  unfold lotOf at read
  split at read
  · split_ifs at read
    cases read
    rfl
  all_goals cases read
  rfl

theorem map_ofNat_of_lotOf {isLot : Bool} {field : Option (BitVec 32)} {lot : Option Nat}
    (read : lotOf isLot field = some lot) : lot.map (BitVec.ofNat 32) = field := by
  unfold lotOf at read
  split at read
  · split_ifs at read
    cases read
    simp
  all_goals cases read
  rfl

theorem map_ofInt_of_offsetMinOf {field : Option (BitVec 32)} {offset : Option Int} (read : offsetMinOf field = some offset) :
    offset.map (BitVec.ofInt 32) = field := by
  unfold offsetMinOf at read
  split at read
  · cases read
    rfl
  · split_ifs at read
    cases read
    simp

theorem map_ofInt_of_offsetMaxOf {low : Option Int} {field : Option (BitVec 32)} {offset : Option Int}
    (read : offsetMaxOf low field = some offset) : offset.map (BitVec.ofInt 32) = field := by
  unfold offsetMaxOf at read
  split at read
  · cases read
    rfl
  · split_ifs at read
    cases read
    simp

theorem map_ofInt_maximumOfFs (field : Option (BitVec 32)) : (maximumOfFs field).map (BitVec.ofInt 32) = field := by
  cases field <;> simp [maximumOfFs]

theorem map_ofInt_of_bandMaximumOf {kind : LimitKind} {field : Option (BitVec 32)} {maximum : Option Int}
    (read : bandMaximumOf kind field = some maximum) : maximum.map (BitVec.ofInt 32) = field := by
  unfold bandMaximumOf at read
  split at read
  · cases read
  · cases read
    exact map_ofInt_maximumOfFs field

theorem map_ofInt_of_spotMaximumOf {kind : LimitKind} {field : Option (BitVec 16)} {maximum : Option Int}
    (read : spotMaximumOf kind field = some maximum) : maximum.map (BitVec.ofInt 16) = field := by
  unfold spotMaximumOf at read
  split at read
  · cases read
    rfl
  · cases read
  · split_ifs at read
    cases read
    simp

theorem map_byteOfNat_of_failBinsOf {field : Vector Byte 14} {bins : Vector Nat 14} (read : failBinsOf field = .ok bins) :
    bins.map byteOfNat = field := by
  unfold failBinsOf at read
  split at read
  · cases read
  · cases read
    simp [Function.comp_def, byteOfNat_toNat]

/-- An accepted LIMIT_WRITE drafts an entry whose fields are those written (R138, R140). -/
theorem limitFieldsOf_of_draftLimit {f : LimitFields} {index : Fin 64} {e : LimitSet}
    (draft : draftLimit f = .ok (index, e)) : limitFieldsOf index e = f := by
  unfold draftLimit at draft
  simp only [bind_eq_ok_iff, accept_eq_ok_iff, Except.ok.injEq, Prod.mk.injEq] at draft
  obtain ⟨index, hindex, kind, hkind, isLot, hscope, lot, hlot, fMin, hfMin, fMax, hfMax, offsetMin, hoffsetMin,
    offsetMax, hoffsetMax, _, -, band0, hband0, band1, hband1, band2, hband2, band3, hband3, spot0, hspot0, spot1, hspot1,
    spot2, hspot2, spot3, hspot3, policy, hpolicy, passBin, hpassBin, retestBin, hretestBin, failBins, hfailBins,
    rfl, rfl⟩ := draft
  obtain rfl := eq_of_inRange hfMin
  obtain rfl := eq_of_inRange hfMax
  obtain rfl := eq_of_inRange hpassBin
  obtain rfl := eq_of_inRange hretestBin
  obtain rfl := isSome_of_lotOf hlot
  cases f
  exact LimitFields.mk.injEq .. ▸ ⟨byteOfNat_of_limitIndexOf hindex, limitKindCode_of_limitKindOf hkind,
    byteOfBool_of_boolOf hscope, map_ofNat_of_lotOf hlot, ofNat32_toNat _, ofNat32_toNat _,
    map_ofInt_of_offsetMinOf hoffsetMin, map_ofInt_of_offsetMaxOf hoffsetMax, map_ofInt_maximumOfFs _,
    map_ofInt_maximumOfFs _, map_ofInt_maximumOfFs _, map_ofInt_maximumOfFs _, map_ofInt_maximumOfFs _,
    map_ofInt_of_bandMaximumOf hband0, map_ofInt_of_bandMaximumOf hband1, map_ofInt_of_bandMaximumOf hband2,
    map_ofInt_of_bandMaximumOf hband3, map_ofInt_of_spotMaximumOf hspot0, map_ofInt_of_spotMaximumOf hspot1,
    map_ofInt_of_spotMaximumOf hspot2, map_ofInt_of_spotMaximumOf hspot3, stalePolicyCode_of_stalePolicyOf hpolicy,
    byteOfNat_toNat _, byteOfNat_toNat _, map_byteOfNat_of_failBinsOf hfailBins⟩

end Sys2Proof.Machine
end

section
/-! SUPPORT. LIMIT_READ, LIMIT_DELETE and LIMIT_EXTENT (R140 to R142): what the requests' owners answer in each case. -/

namespace Sys2Proof.Machine

/-! ### A request whose owner leaves the receiver alone -/

/-- What a request's owner answers and does neither reads nor writes the receiver. -/
def IgnoresReceiver (serve : State → List Byte × State) : Prop :=
  ∀ r s, serve (setReceiver r s) = ((serve s).1, setReceiver r (serve s).2)

/-- A request that finds the server ready gets its owner's answer (R176). -/
theorem receiveRequest_answers {tag : Byte} {r : Request} {s : State} (ready : Ready s)
    (readsBack : readRequest (requestKind r) (requestPayload r) = some r) (fits : (requestPayload r).length ≤ 1024)
    (notReset : r ≠ .reset) (ignores : IgnoresReceiver (serveRequest r)) :
    receiveRequest tag r s =
      .next (answered (requestKind r + 128) tag (serveRequest r s).1 (serveRequest r s).2) :=
  congrArg Host.Outcome.next (receiveFrame_answers ready readsBack fits notReset (ignores .hunt s))

/-! ### The commands -/

theorem exec_limitRead_answers {s : State} (tag index : Byte) (ready : Ready s) :
    exec (.limitRead tag index) s = .next (answered 0x88 tag (serveLimitRead index s).1 (serveLimitRead index s).2) := by
  have ignores : IgnoresReceiver (serveLimitRead index) := fun r s => by
    unfold serveLimitRead inUseOf
    rw [setReceiver_limits]
    split
    · rfl
    · split
      · rfl
      · split <;> rfl
  exact receiveRequest_answers (r := .limitRead index) ready rfl (by simp [requestPayload]) nofun ignores

theorem exec_limitDelete_answers {s : State} (tag index : Byte) (ready : Ready s) :
    exec (.limitDelete tag index) s =
      .next (answered 0x89 tag (serveLimitDelete index s).1 (serveLimitDelete index s).2) := by
  have ignores : IgnoresReceiver (serveLimitDelete index) := fun r s => by
    unfold serveLimitDelete inUseOf
    rw [setReceiver_limits]
    split
    · rfl
    · split_ifs <;> rfl
  exact receiveRequest_answers (r := .limitDelete index) ready rfl (by simp [requestPayload]) nofun ignores

theorem exec_limitExtent_answers {s : State} (tag extent : Byte) (ready : Ready s) :
    exec (.limitExtent tag extent) s =
      .next (answered 0x86 tag (serveLimitExtent extent s).1 (serveLimitExtent extent s).2) := by
  have ignores : IgnoresReceiver (serveLimitExtent extent) := fun r s => by
    unfold serveLimitExtent highestDefined
    rw [setReceiver_limits]
    split
    · rfl
    · split <;> rfl
  exact receiveRequest_answers (r := .limitExtent extent) ready rfl (by simp [requestPayload]) nofun ignores

theorem exec_limitWrite_answers {s : State} (tag : Byte) (f : LimitFields) (ready : Ready s) :
    exec (.limitWrite tag f) s = .next (answered 0x87 tag (serveLimitWrite f s).1 (serveLimitWrite f s).2) := by
  have ignores : IgnoresReceiver (serveLimitWrite f) := fun r s => by
    unfold serveLimitWrite inUseOf
    rw [setReceiver_limits]
    split
    · rfl
    · split_ifs <;> rfl
  have readsBack : readRequest 0x07 (requestPayload (.limitWrite f)) = some (.limitWrite f) :=
    congrArg (Option.map Request.limitWrite) (readLimit_written f)
  exact receiveRequest_answers (r := .limitWrite f) ready readsBack
    ((Laws.Described.limitPayload_length f).trans (by decide)) nofun ignores

/-! ### What the owner of LIMIT_READ answers (R140) -/

theorem serveLimitRead_of_bad_index {index : Byte} (s : State) (bad : 64 ≤ index.toNat) :
    serveLimitRead index s = (badField 1, s) := by
  simp only [serveLimitRead, (limitIndexOf_eq_none_iff index).mpr bad]

theorem serveLimitRead_of_beyond {index : Fin 64} {s : State} (beyond : s.limits.extent ≤ index.val) :
    serveLimitRead (byteOfNat index.val) s = (refusal .limitRange, s) := by
  simp only [serveLimitRead, limitIndexOf_byteOfNat, if_pos beyond]

theorem serveLimitRead_of_undefined {index : Fin 64} {s : State} (within : index.val < s.limits.extent)
    (undefined : s.limits.entries[index] = none) :
    serveLimitRead (byteOfNat index.val) s = (refusal .limitAbsent, s) := by
  simp only [serveLimitRead, limitIndexOf_byteOfNat, if_neg (Nat.not_le.mpr within), undefined]

theorem serveLimitRead_of_defined {index : Fin 64} {s : State} {e : LimitSet} (within : index.val < s.limits.extent)
    (defined : s.limits.entries[index] = some e) :
    serveLimitRead (byteOfNat index.val) s =
      (okReply (byteOfNat (inUseOf s index) :: limitPayload (limitFieldsOf index e)), s) := by
  simp only [serveLimitRead, limitIndexOf_byteOfNat, if_neg (Nat.not_le.mpr within), defined]

/-! ### What the owner of LIMIT_DELETE answers (R141) -/

theorem serveLimitDelete_of_bad_index {index : Byte} (s : State) (bad : 64 ≤ index.toNat) :
    serveLimitDelete index s = (badField 1, s) := by
  simp only [serveLimitDelete, (limitIndexOf_eq_none_iff index).mpr bad]

theorem serveLimitDelete_of_beyond {index : Fin 64} {s : State} (beyond : s.limits.extent ≤ index.val) :
    serveLimitDelete (byteOfNat index.val) s = (refusal .limitRange, s) := by
  simp only [serveLimitDelete, limitIndexOf_byteOfNat, if_pos beyond]

theorem serveLimitDelete_of_undefined {index : Fin 64} {s : State} (within : index.val < s.limits.extent)
    (undefined : s.limits.entries[index] = none) :
    serveLimitDelete (byteOfNat index.val) s = (refusal .limitAbsent, s) := by
  simp only [serveLimitDelete, limitIndexOf_byteOfNat, if_neg (Nat.not_le.mpr within), undefined, Option.isNone_none, if_true]

/-- A defined entry is deleted unless it is in use. -/
theorem serveLimitDelete_of_defined {index : Fin 64} {s : State} {e : LimitSet} (within : index.val < s.limits.extent)
    (defined : s.limits.entries[index] = some e) :
    serveLimitDelete (byteOfNat index.val) s =
      if 0 < inUseOf s index then (refusal .limitInUse, s) else (okReply [], setEntry index none s) := by
  simp only [serveLimitDelete, limitIndexOf_byteOfNat, if_neg (Nat.not_le.mpr within), defined, Option.isNone_some,
    Bool.false_eq_true, if_false]

/-! ### What the owner of LIMIT_EXTENT answers (R142) -/

theorem filter_highestDefined_eq_none {s : State} {extent : Nat}
    (undefined : ∀ index : Fin 64, extent ≤ index.val → s.limits.entries[index] = none) :
    ((highestDefined s).filter fun index => decide (extent ≤ index.val)) = none := by
  refine Option.filter_eq_none_iff.mpr fun index found => ?_
  have defined : (s.limits.entries[index]).isSome = true :=
    List.find?_some (p := fun index : Fin 64 => (s.limits.entries[index]).isSome) found
  rw [decide_eq_true_iff]
  intro beyond
  simp [undefined index beyond] at defined

/-- The search goes from index 63 down, and meets only undefined entries before the highest defined one. -/
theorem highestDefined_eq_some {s : State} {highest : Fin 64} (defined : (s.limits.entries[highest]).isSome = true)
    (undefined : ∀ index : Fin 64, highest < index → s.limits.entries[index] = none) :
    highestDefined s = some highest := by
  obtain ⟨above, below, split⟩ := List.append_of_mem (List.mem_reverse.mpr (List.mem_finRange highest))
  have descending : (above ++ highest :: below).Pairwise (· > ·) :=
    split ▸ List.pairwise_reverse.mpr (List.pairwise_lt_finRange 64)
  refine List.find?_eq_some_iff_append.mpr ⟨defined, above, below, split, fun index before => ?_⟩
  have higher : highest < index := (List.pairwise_append.mp descending).2.2 index before highest List.mem_cons_self
  simp [undefined index higher]

theorem serveLimitExtent_of_bad {extent : Byte} (s : State) (bad : extent = 0 ∨ 64 < extent.toNat) :
    serveLimitExtent extent s = (badField 1, s) := by
  have outside : ¬(1 ≤ extent.toNat ∧ extent.toNat ≤ 64) := by bv_omega
  simp only [serveLimitExtent, inRange, if_neg outside]

theorem serveLimitExtent_of_unblocked {extent : Byte} {s : State} (low : 1 ≤ extent.toNat) (high : extent.toNat ≤ 64)
    (undefined : ∀ index : Fin 64, extent.toNat ≤ index.val → s.limits.entries[index] = none) :
    serveLimitExtent extent s =
      (okReply [extent], { s with limits := { s.limits with extent := extent.toNat } }) := by
  simp only [serveLimitExtent, inRange, if_pos (And.intro low high), filter_highestDefined_eq_none undefined, byteOfNat_toNat]

theorem serveLimitExtent_of_blocked {extent : Byte} {s : State} {highest : Fin 64} (low : 1 ≤ extent.toNat)
    (beyond : extent.toNat ≤ highest.val) (defined : (s.limits.entries[highest]).isSome = true)
    (undefined : ∀ index : Fin 64, highest < index → s.limits.entries[index] = none) :
    serveLimitExtent extent s = ([statusCode .extentBlocked, byteOfNat highest.val], s) := by
  have high : extent.toNat ≤ 64 := by omega
  simp only [serveLimitExtent, inRange, if_pos (And.intro low high), highestDefined_eq_some defined undefined,
    Option.filter_some, decide_eq_true beyond, if_true]

/-! ### An entry read after it was written -/

/-- What a LIMIT_WRITE that is answered OK found and did (R139). -/
theorem serveLimitWrite_of_ok {f : LimitFields} {s : State} {rest : List Byte}
    (ok : (serveLimitWrite f s).1 = statusCode .ok :: rest) :
    ∃ index e, draftLimit f = .ok (index, e) ∧ index.val < s.limits.extent ∧ inUseOf s index = 0 ∧
      (serveLimitWrite f s).2 = setEntry index (some e) s := by
  unfold serveLimitWrite at ok ⊢
  split at ok
  case h_1 => simp [badField, statusCode] at ok
  case h_2 index e draft =>
    split_ifs at ok with beyond used
    · simp [refusal, statusCode] at ok
    · simp [refusal, statusCode] at ok
    · refine ⟨index, e, draft, by omega, by omega, ?_⟩
      simp only [if_neg beyond, if_neg used]

/-- The entry that a LIMIT_WRITE wrote is read as it was written, and is not in use (R139, R140). -/
theorem serveLimitRead_of_written {f : LimitFields} {s u : State} {rest : List Byte}
    (ok : (serveLimitWrite f s).1 = statusCode .ok :: rest) (same : u.limits = (serveLimitWrite f s).2.limits) :
    serveLimitRead f.index u = (okReply (0 :: limitPayload f), u) := by
  obtain ⟨index, e, draft, within, unused, written⟩ := serveLimitWrite_of_ok ok
  rw [written, setEntry_limits] at same
  have fields : limitFieldsOf index e = f := limitFieldsOf_of_draftLimit draft
  have named : f.index = byteOfNat index.val := fields ▸ rfl
  have within : index.val < u.limits.extent := same ▸ within
  have defined : u.limits.entries[index] = some e := by simp [same]
  have unused : inUseOf u index = 0 := by simpa [inUseOf, same] using unused
  rw [named, serveLimitRead_of_defined within defined, unused, fields]
  rfl

/-- Settles O38: each request's answer is that of its owner, in the cases of the statement; the entry read back is the one
that the accepted LIMIT_WRITE drafted. -/
theorem limitReadDeleteAndExtent : Obligations.LimitReadDeleteAndExtent := by
  unfold Obligations.LimitReadDeleteAndExtent
  refine ⟨fun tag index s ready bad => ⟨?_, ?_⟩, fun tag tag' f rest s t u ready write reply readyAgain same => ?_,
    fun tag index s ready => ⟨fun beyond => ⟨?_, ?_⟩, fun within undefined => ⟨?_, ?_⟩,
      fun e within defined => ⟨?_, fun used => ?_, fun unused => ?_⟩⟩,
    fun tag extent s ready => ⟨fun bad => ?_, fun low high =>
      ⟨fun undefined => ?_, fun highest beyond defined undefined => ?_⟩⟩⟩
  · rw [exec_limitRead_answers tag index ready, serveLimitRead_of_bad_index s bad]
    rfl
  · rw [exec_limitDelete_answers tag index ready, serveLimitDelete_of_bad_index s bad]
    rfl
  · rw [exec_limitWrite_answers tag f ready] at write
    obtain rfl := Host.Outcome.next.inj write
    have ok : (serveLimitWrite f s).1 = 0x00 :: rest := congrArg Frame.payload (Server.replying.inj reply)
    rw [exec_limitRead_answers tag' f.index readyAgain, serveLimitRead_of_written ok same]
    rfl
  · rw [exec_limitRead_answers tag _ ready, serveLimitRead_of_beyond beyond]
    rfl
  · rw [exec_limitDelete_answers tag _ ready, serveLimitDelete_of_beyond beyond]
    rfl
  · rw [exec_limitRead_answers tag _ ready, serveLimitRead_of_undefined within undefined]
    rfl
  · rw [exec_limitDelete_answers tag _ ready, serveLimitDelete_of_undefined within undefined]
    rfl
  · rw [exec_limitRead_answers tag _ ready, serveLimitRead_of_defined within defined]
    rfl
  · rw [exec_limitDelete_answers tag _ ready, serveLimitDelete_of_defined within defined, if_pos used]
    rfl
  · rw [exec_limitDelete_answers tag _ ready, serveLimitDelete_of_defined within defined,
      if_neg (Nat.not_lt.mpr unused.le)]
    rfl
  · rw [exec_limitExtent_answers tag extent ready, serveLimitExtent_of_bad s bad]
    rfl
  · rw [exec_limitExtent_answers tag extent ready, serveLimitExtent_of_unblocked low high undefined]
    rfl
  · rw [exec_limitExtent_answers tag extent ready, serveLimitExtent_of_blocked low beyond defined undefined]
    rfl

end Sys2Proof.Machine
end

section
/-! SUPPORT. The checks of a named limit entry (R145), LIMIT_PROBE (R146) and LOT_OPEN (R144): the outcome of the checks in
each case, and what the requests' owners answer. -/

namespace Sys2Proof.Machine

/-! ### The figures an entry may not check (R136, R145) -/

/-- The names dropped from a list are those at or beyond the count. -/
theorem any_drop_iff {α : Type} (names : List α) (p : α → Bool) (count : Nat) :
    (names.drop count).any p = true ↔ ∃ i : Fin names.length, count ≤ i.val ∧ p names[i] = true := by
  simp only [List.any_eq_true, List.mem_drop_iff_getElem]
  constructor
  · rintro ⟨_, ⟨i, inside, rfl⟩, holds⟩
    exact ⟨⟨count + i, by omega⟩, Nat.le_add_right .., holds⟩
  · rintro ⟨⟨i, inside⟩, beyond, holds⟩
    exact ⟨_, ⟨i - count, by omega, rfl⟩, by simpa [Nat.add_sub_of_le beyond] using holds⟩

theorem any_bandsBeyond_iff (e : LimitSet) (count : Nat) :
    (bandsBeyond count).any (isChecked e) = true ↔
      ∃ b : Fin 4, count ≤ b.val ∧ (e.maxima[5 + b.val]).isSome = true := by
  refine (any_drop_iff _ _ count).trans (exists_congr fun (b : Fin 4) => and_congr_right fun _ => ?_)
  fin_cases b <;> rfl

theorem any_spotsBeyond_iff (e : LimitSet) (count : Nat) :
    (spotsBeyond count).any (isChecked e) = true ↔
      ∃ i : Fin 4, count ≤ i.val ∧ (e.maxima[9 + i.val]).isSome = true := by
  refine (any_drop_iff _ _ count).trans (exists_congr fun (i : Fin 4) => and_congr_right fun _ => ?_)
  fin_cases i <;> rfl

/-- An entry that does not suit a job: SPECTRAL for a job that is not, or one that checks a band or a spot the job has not. -/
def Unsuited (e : LimitSet) (spectral : Bool) (bands spots : Nat) : Prop :=
  (e.kind = .spectral ∧ spectral = false) ∨
    (∃ b : Fin 4, bands ≤ b.val ∧ (e.maxima[5 + b.val]).isSome = true) ∨
    ∃ i : Fin 4, spots ≤ i.val ∧ (e.maxima[9 + i.val]).isSome = true

theorem not_kindSuits_iff (e : LimitSet) (spectral : Bool) (bands spots : Nat) :
    (!kindSuits e spectral bands spots) = true ↔ Unsuited e spectral bands spots := by
  rw [kindSuits, Bool.not_and, Bool.not_not, Bool.not_not, Bool.or_eq_true, List.any_append, Bool.or_eq_true,
    any_bandsBeyond_iff, any_spotsBeyond_iff, Bool.and_eq_true, decide_eq_true_iff, Bool.not_eq_true']
  rfl

theorem not_scopeSuits_iff (e : LimitSet) (currentLot : Nat) :
    (!scopeSuits e currentLot) = true ↔ ∃ tag, e.lot = some tag ∧ tag ≠ currentLot := by
  unfold scopeSuits
  cases e.lot <;> simp

/-! ### The checks in order (R145) -/

theorem limitFault_of_beyond {s : State} {index : Fin 64} (spectral : Bool) (bands spots fNom : Nat)
    (beyond : s.limits.extent ≤ index.val) : limitFault s index spectral bands spots fNom = some .limitRange := by
  simp only [limitFault, if_pos beyond]

theorem limitFault_of_undefined {s : State} {index : Fin 64} (spectral : Bool) (bands spots fNom : Nat)
    (within : index.val < s.limits.extent) (undefined : s.limits.entries[index] = none) :
    limitFault s index spectral bands spots fNom = some .limitAbsent := by
  simp only [limitFault, if_neg (Nat.not_le.mpr within), undefined]

/-- A defined entry goes through the checks of its kind, its lot and its frequency range. -/
theorem limitFault_of_defined {s : State} {index : Fin 64} {e : LimitSet} (spectral : Bool) (bands spots fNom : Nat)
    (within : index.val < s.limits.extent) (defined : s.limits.entries[index] = some e) :
    limitFault s index spectral bands spots fNom =
      if !kindSuits e spectral bands spots then some .limitKind
      else if !scopeSuits e s.limits.currentLot then some .limitScope
      else if fNom < e.fMin ∨ e.fMax < fNom then some .limitFreq
      else none := by
  simp only [limitFault, if_neg (Nat.not_le.mpr within), defined]

/-! ### What the owner of LIMIT_PROBE answers (R146) -/

/-- The checks of a LIMIT_PROBE's five fields, each with its number (R146). -/
def probeChecks (index spectral bands spots : Byte) (fNom : BitVec 32) : List (Byte × Bool) :=
  let count (b : Byte) : Bool := decide (b.toNat ≤ 4) && (decide (spectral = 1) || decide (b = 0))
  [(1, decide (index.toNat < 64)), (2, decide (spectral.toNat < 2)), (3, count bands), (4, count spots),
    (5, decide (1000000 ≤ fNom.toNat) && decide (fNom.toNat ≤ 1000000000))]

theorem eq_of_boolOf {b : Byte} {x : Bool} (read : boolOf b = some x) : x = decide (b = 1) := by
  rw [← byteOfBool_of_boolOf read]
  cases x <;> rfl

theorem draftProbe_refusedByFirst (index spectral bands spots : Byte) (fNom : BitVec 32) :
    RefusedByFirst (probeChecks index spectral bands spots fNom) (draftProbe index spectral bands spots fNom) := by
  unfold draftProbe
  refine refusedByFirst_accept (isSome_limitIndexOf index) fun _ _ =>
    refusedByFirst_accept (isSome_boolOf spectral) fun isSpectral read => ?_
  obtain rfl := eq_of_boolOf read
  exact refusedByFirst_accept (isSome_countOf _ bands) fun _ _ =>
    refusedByFirst_accept (isSome_countOf _ spots) fun _ _ =>
      refusedByFirst_accept (isSome_inRange _ _ _) fun _ _ => refusedByFirst_nil _

theorem draftProbe_of_accepted {index spectral bands spots : Byte} {fNom : BitVec 32} {i : Fin 64}
    (same : i.val = index.toNat)
    (holds : (probeChecks index spectral bands spots fNom).all (fun check => check.2) = true) :
    draftProbe index spectral bands spots fNom =
      .ok (i, decide (spectral = 1), bands.toNat, spots.toNat, fNom.toNat) := by
  simp only [probeChecks, List.all_cons, List.all_nil, Bool.and_true, Bool.and_eq_true, Bool.or_eq_true,
    decide_eq_true_eq] at holds
  obtain ⟨-, hspectral, hbands, hspots, hfNom⟩ := holds
  have bandCount : countOf (decide (spectral = 1)) bands = some bands.toNat := if_pos (by simpa using hbands)
  have spotCount : countOf (decide (spectral = 1)) spots = some spots.toNat := if_pos (by simpa using hspots)
  have frequency : inRange 1000000 1000000000 fNom.toNat = some fNom.toNat := if_pos hfNom
  unfold draftProbe
  rw [limitIndexOf_eq_some same, accept_some_bind, boolOf_eq_some hspectral, accept_some_bind, bandCount, accept_some_bind,
    spotCount, accept_some_bind, frequency, accept_some_bind]

theorem serveLimitProbe_of_refused {index spectral bands spots : Byte} {fNom : BitVec 32} (s : State) {check : Byte × Bool}
    (first : (probeChecks index spectral bands spots fNom).find? (fun check => !check.2) = some check) :
    serveLimitProbe index spectral bands spots fNom s = ([statusCode .badField, check.1], s) := by
  obtain ⟨number, refused, coded⟩ := draftProbe_refusedByFirst index spectral bands spots fNom check first
  simp only [serveLimitProbe, refused, badField, coded]

/-- The in-use count is answered for a defined entry within the extent (R146). -/
theorem isSome_entryAt_iff (s : State) (index : Fin 64) :
    (entryAt s index).isSome = true ↔ index.val < s.limits.extent ∧ (s.limits.entries[index]).isSome = true := by
  unfold entryAt
  split <;> simp [*]

theorem serveLimitProbe_of_accepted {index spectral bands spots : Byte} {fNom : BitVec 32} {i : Fin 64} (s : State)
    (same : i.val = index.toNat)
    (holds : (probeChecks index spectral bands spots fNom).all (fun check => check.2) = true) :
    serveLimitProbe index spectral bands spots fNom s =
      (okReply
        [((limitFault s i (decide (spectral = 1)) bands.toNat spots.toNat fNom.toNat).map statusCode).getD 0,
          if i.val < s.limits.extent ∧ (s.limits.entries[i]).isSome = true then byteOfNat (inUseOf s i) else absentByte],
        s) := by
  simp only [serveLimitProbe, draftProbe_of_accepted same holds, isSome_entryAt_iff]

/-! ### What the owner of LOT_OPEN answers (R144) -/

theorem serveLotOpen_of_zero (s : State) : serveLotOpen 0 s = (badField 1, s) :=
  rfl

theorem serveLotOpen_of_live_job {lot : BitVec 32} {s : State} (nonzero : lot ≠ 0) (live : liveJobs s ≠ []) :
    serveLotOpen lot s = (refusal .lotBusy, s) := by
  have busy : (!(liveJobs s).isEmpty) = true := by simpa using live
  simp only [serveLotOpen, if_neg nonzero, if_pos busy]

theorem serveLotOpen_of_no_live_job {lot : BitVec 32} {s : State} (nonzero : lot ≠ 0) (noJob : liveJobs s = []) :
    serveLotOpen lot s =
      (okReply (bytes32 lot ++ bytes32OfNat s.limits.currentLot),
        { s with limits := { s.limits with currentLot := lot.toNat } }) := by
  simp only [serveLotOpen, if_neg nonzero, noJob, List.isEmpty_nil, Bool.not_true, Bool.false_eq_true, if_false]

/-! ### The commands -/

theorem exec_limitProbe_answers {s : State} (tag index spectral bands spots : Byte) (fNom : BitVec 32) (ready : Ready s) :
    exec (.limitProbe tag index spectral bands spots fNom) s =
      .next (answered 0x8A tag (serveLimitProbe index spectral bands spots fNom s).1
        (serveLimitProbe index spectral bands spots fNom s).2) := by
  have readsBack : readRequest 0x0A (requestPayload (.limitProbe index spectral bands spots fNom)) =
      some (.limitProbe index spectral bands spots fNom) := by
    simp [readRequest, requestPayload, bytes32, word32_bytes]
  have ignores : IgnoresReceiver (serveLimitProbe index spectral bands spots fNom) := fun r s => by
    unfold serveLimitProbe
    split <;> rfl
  exact receiveRequest_answers (r := .limitProbe index spectral bands spots fNom) ready readsBack
    (by simp [requestPayload, bytes32]) nofun ignores

theorem exec_lotOpen_answers {s : State} (tag : Byte) (lot : BitVec 32) (ready : Ready s) :
    exec (.lotOpen tag lot) s = .next (answered 0x8B tag (serveLotOpen lot s).1 (serveLotOpen lot s).2) := by
  have readsBack : readRequest 0x0B (requestPayload (.lotOpen lot)) = some (.lotOpen lot) := by
    simp [readRequest, requestPayload, bytes32, word32_bytes]
  have ignores : IgnoresReceiver (serveLotOpen lot) := fun r s => by
    have sameJobs : liveJobs (setReceiver r s) = liveJobs s := rfl
    unfold serveLotOpen
    rw [sameJobs]
    split_ifs <;> rfl
  exact receiveRequest_answers (r := .lotOpen lot) ready readsBack (by simp [requestPayload, bytes32]) nofun ignores

/-- Settles O39: the checks are those of the model in their order, the fields of LIMIT_PROBE are judged as its draft accepts
them, and each request's answer is that of its owner. -/
theorem limitChecksProbeAndLotOpen : Obligations.LimitChecksProbeAndLotOpen := by
  unfold Obligations.LimitChecksProbeAndLotOpen
  refine ⟨fun s index spectral bands spots fNom => ⟨limitFault_of_beyond spectral bands spots fNom,
      limitFault_of_undefined spectral bands spots fNom, fun e within defined => ?_⟩,
    fun tag index spectral bands spots fNom s ready => ⟨fun check first => ?_, fun i same holds => ?_⟩,
    fun tag lot s ready => ⟨fun zero => ?_, fun nonzero live => ?_, fun nonzero noJob => ?_⟩⟩
  · intro unsuited otherLot
    have kind : _ ↔ unsuited := not_kindSuits_iff e spectral bands spots
    have lot : _ ↔ otherLot := not_scopeSuits_iff e s.limits.currentLot
    rw [limitFault_of_defined spectral bands spots fNom within defined]
    refine ⟨fun is => if_pos (kind.mpr is), fun suited other => ?_, fun suited own outside => ?_,
      fun suited own low high => ?_⟩
    all_goals rw [if_neg (mt kind.mp suited)]
    · exact if_pos (lot.mpr other)
    · exact (if_neg (mt lot.mp own)).trans (if_pos outside)
    · exact (if_neg (mt lot.mp own)).trans (if_neg (by omega))
  · rw [exec_limitProbe_answers tag _ _ _ _ _ ready, serveLimitProbe_of_refused s first]
    rfl
  · intro outcome inUse
    have sameOutcome : outcome =
        ((limitFault s i (decide (spectral = 1)) bands.toNat spots.toNat fNom.toNat).map statusCode).getD 0 := by
      unfold outcome
      cases limitFault s i (decide (spectral = 1)) bands.toNat spots.toNat fNom.toNat <;> rfl
    rw [exec_limitProbe_answers tag _ _ _ _ _ ready, serveLimitProbe_of_accepted s same holds, ← sameOutcome]
    rfl
  · subst zero
    rw [exec_lotOpen_answers tag _ ready, serveLotOpen_of_zero]
    rfl
  · rw [exec_lotOpen_answers tag lot ready, serveLotOpen_of_live_job nonzero live]
    rfl
  · rw [exec_lotOpen_answers tag lot ready, serveLotOpen_of_no_live_job nonzero noJob]
    rfl

end Sys2Proof.Machine
end

section
/-! SUPPORT. The bytes of a result record (section 11.6): the words that name figures, the parts that go by figure, in figure
order, and the items that may be absent. -/

namespace Sys2Proof.Machine

/-! ### Figures in figure order -/

theorem map_figureIndex_figureOrder : figureOrder.map figureIndex = List.finRange 14 := by
  decide

theorem getLsbD_word16 (b0 b1 : Byte) (i : Nat) :
    (word16 b0 b1).getLsbD i = if i < 8 then b0.getLsbD i else b1.getLsbD (i - 8) := by
  rw [word16, BitVec.getLsbD_append]

/-- The bit of a figure in a figure set is the one with its number (section 11.6). -/
theorem getLsbD_figureMask (holds : FigureName → Bool) (name : FigureName) :
    (figureMask holds).getLsbD (figureIndex name).val = holds name := by
  cases name <;> simp [figureMask, figureIndex, getLsbD_word16, byteOfBits_bit, -BitVec.getLsbD_eq_getElem]

theorem getLsbD_figureMask_unused (holds : FigureName → Bool) :
    (figureMask holds).getLsbD 14 = false ∧ (figureMask holds).getLsbD 15 = false := by
  simp [figureMask, getLsbD_word16, byteOfBits_bit, -BitVec.getLsbD_eq_getElem]

/-- A figure set holds the figures of a property, and its two highest bits are clear. -/
theorem figureMask_holds {holds : FigureName → Bool} {p : FigureName → Prop} (same : ∀ name, holds name = true ↔ p name) :
    (∀ name, (figureMask holds).getLsbD (figureIndex name).val = true ↔ p name) ∧
      (figureMask holds).getLsbD 14 = false ∧ (figureMask holds).getLsbD 15 = false :=
  ⟨fun name => getLsbD_figureMask holds name ▸ same name, getLsbD_figureMask_unused holds⟩

/-- The figures before the spots take four bytes, the spots two. -/
theorem figureBytes_eq (figures : Figures) (name : FigureName) :
    figureBytes figures name = match figures[figureIndex name].value with
      | none => []
      | some value => if (figureIndex name).val < 10 then bytes32OfInt value else bytes16OfInt value := by
  unfold figureBytes figureOf
  cases figures[figureIndex name].value with
  | none => rfl
  | some value => cases name <;> rfl

theorem map_figureOrder {α : Type} (f : Fin 14 → α) :
    figureOrder.map (fun name => f (figureIndex name)) = (List.finRange 14).map f := by
  rw [← map_figureIndex_figureOrder, List.map_map]
  rfl

theorem flatMap_figureOrder {α : Type} (f : Fin 14 → List α) :
    figureOrder.flatMap (fun name => f (figureIndex name)) = (List.finRange 14).flatMap f := by
  rw [← map_figureIndex_figureOrder, List.flatMap_map]

/-! ### Items that may be absent -/

theorem optionalByte_eq_toList_map (x : Option Nat) :
    (match x with
      | some n => [byteOfNat n]
      | none => []) = (x.map byteOfNat).toList := by
  cases x <;> rfl

theorem not_isEmpty_eq_decide {α : Type} (l : List α) [Decidable (l ≠ [])] : (!l.isEmpty) = decide (l ≠ []) := by
  cases l <;> simp

end Sys2Proof.Machine
end

section
/-! SUPPORT. RESULT_NEXT, RESULT_READ and RESULT_CLEAR (R158 to R160): what clearing slots does to the result store, and
what the requests' owners answer in each case. -/

namespace Sys2Proof.Machine

/-! ### Clearing slots -/

/-- The slots named become EMPTY, and the others stay as they were (R160). -/
theorem slotAt_foldl_clearSlot (sites : List Site) (s : State) (site : Site) :
    slotAt (sites.foldl clearSlot s) site = if site ∈ sites then .empty else slotAt s site := by
  induction sites generalizing s with
  | nil => simp
  | cons named sites ih =>
    have cleared : slotAt (clearSlot s named) site = if site = named then .empty else slotAt s site := by
      simp [slotAt, clearSlot, Vector.getElem_set, Fin.val_inj, eq_comm]
    rw [List.foldl_cons, ih, cleared]
    by_cases same : site = named <;> simp [same]

/-- The sites named leave the completion list, and the others keep their order (R160). -/
theorem completion_foldl_clearSlot (sites : List Site) (s : State) :
    (sites.foldl clearSlot s).results.completion = s.results.completion.filter (· ∉ sites) := by
  induction sites generalizing s with
  | nil => simp
  | cons named sites ih =>
    rw [List.foldl_cons, ih]
    simp only [clearSlot, List.filter_filter]
    exact List.filter_congr fun other _ => by
      by_cases same : other = named <;> simp [same]

/-- Clearing slots changes the result store only. -/
theorem foldl_clearSlot_eq (sites : List Site) (s : State) :
    sites.foldl clearSlot s = { s with results := (sites.foldl clearSlot s).results } := by
  induction sites generalizing s with
  | nil => rfl
  | cons named sites ih => exact ih (clearSlot s named)

/-- Clearing every slot leaves the store as a reset does (R160, R169). -/
theorem foldl_clearSlot_finRange (s : State) :
    (List.finRange 16).foldl clearSlot s =
      { s with results := { slots := Vector.replicate 16 .empty, completion := [] } } := by
  have slots : ((List.finRange 16).foldl clearSlot s).results.slots = Vector.replicate 16 .empty := by
    ext i hi
    have cleared := slotAt_foldl_clearSlot (List.finRange 16) s ⟨i, hi⟩
    simpa [slotAt] using cleared
  have completion : ((List.finRange 16).foldl clearSlot s).results.completion = [] := by
    simp [completion_foldl_clearSlot]
  rw [foldl_clearSlot_eq, ← slots, ← completion]

/-! ### What the owners answer (R158 to R160) -/

theorem serveResultNext_of_nil {s : State} (empty : s.results.completion = []) :
    serveResultNext s = (refusal .noResult, s) := by
  simp only [serveResultNext, empty]

theorem serveResultNext_of_new {s : State} {site : Site} {rest : List Site} {r : ResultRecord}
    (head : s.results.completion = site :: rest) (holds : slotAt s site = .new r) :
    serveResultNext s = (recordReply r (markRead site r s), markRead site r s) := by
  simp only [serveResultNext, head, holds, slotRecord]

/-- A site that stands once on the completion list, at its head, leaves the rest. -/
theorem markRead_of_head {s : State} {site : Site} {rest : List Site} (r : ResultRecord)
    (head : s.results.completion = site :: rest) (once : site ∉ rest) :
    markRead site r s =
      { s with results := { slots := s.results.slots.set site (.read r), completion := rest } } := by
  have others : rest.filter (· != site) = rest :=
    List.filter_eq_self.mpr fun other member => bne_iff_ne.mpr (ne_of_mem_of_not_mem member once)
  simp [markRead, head, others]

theorem serveResultRead_of_bad_site {site : Byte} (s : State) (bad : 16 ≤ site.toNat) :
    serveResultRead site s = (badField 1, s) := by
  simp only [serveResultRead, (siteOf_eq_none_iff site).mpr bad]

theorem serveResultRead_of_empty {s : State} {site : Site} (empty : slotAt s site = .empty) :
    serveResultRead (siteCode site) s = (refusal .noResult, s) := by
  simp only [serveResultRead, siteOf_siteCode, empty]

theorem serveResultRead_of_new {s : State} {site : Site} {r : ResultRecord} (holds : slotAt s site = .new r) :
    serveResultRead (siteCode site) s = (recordReply r (markRead site r s), markRead site r s) := by
  simp only [serveResultRead, siteOf_siteCode, holds]

theorem serveResultRead_of_read {s : State} {site : Site} {r : ResultRecord} (holds : slotAt s site = .read r) :
    serveResultRead (siteCode site) s = (recordReply r s, s) := by
  simp only [serveResultRead, siteOf_siteCode, holds]

/-- The byte of a site is not the FFh that names them all (section 11.3). -/
theorem siteCode_ne_all (site : Site) : siteCode site ≠ 0xFF := by
  have inRange : (siteCode site).toNat = site.val := toNat_byteOfNat (by omega)
  intro all
  rw [all] at inRange
  exact absurd (inRange ▸ site.isLt) (by decide)

theorem serveResultClear_of_bad_site {site : Byte} (s : State) (bad : 16 ≤ site.toNat) (one : site ≠ 0xFF) :
    serveResultClear site s = (badField 1, s) := by
  simp only [serveResultClear, clearedSites, if_neg one, (siteOf_eq_none_iff site).mpr bad, Option.map_none]

theorem serveResultClear_of_site (site : Site) (s : State) :
    serveResultClear (siteCode site) s =
      (okReply [if isNew (slotAt s site) then 1 else 0], clearSlot s site) := by
  have count : byteOfNat ([site].countP fun site => isNew (slotAt s site)) =
      if isNew (slotAt s site) then 1 else 0 := by
    rw [List.countP_singleton]
    split <;> rfl
  simp only [serveResultClear, clearedSites, if_neg (siteCode_ne_all site), siteOf_siteCode, Option.map_some, count,
    List.foldl_cons, List.foldl_nil]

theorem serveResultClear_of_all (s : State) :
    serveResultClear 0xFF s =
      (okReply [byteOfNat ((List.finRange 16).countP fun site => isNew (slotAt s site))],
        { s with results := { slots := Vector.replicate 16 .empty, completion := [] } }) := by
  simp only [serveResultClear, clearedSites, if_true, foldl_clearSlot_finRange]

/-! ### The commands -/

theorem exec_resultNext_answers {s : State} (tag : Byte) (ready : Ready s) :
    exec (.resultNext tag) s = .next (answered 0x92 tag (serveResultNext s).1 (serveResultNext s).2) := by
  have ignores : IgnoresReceiver serveResultNext := fun r s => by
    have sameSlot : ∀ site, slotAt (setReceiver r s) site = slotAt s site := fun _ => rfl
    unfold serveResultNext
    simp only [setReceiver_results, sameSlot]
    split
    · rfl
    · split <;> rfl
  exact receiveRequest_answers (r := .resultNext) ready rfl (by simp [requestPayload]) nofun ignores

theorem exec_resultRead_answers {s : State} (tag site : Byte) (ready : Ready s) :
    exec (.resultRead tag site) s = .next (answered 0x93 tag (serveResultRead site s).1 (serveResultRead site s).2) := by
  have ignores : IgnoresReceiver (serveResultRead site) := fun r s => by
    have sameSlot : ∀ site, slotAt (setReceiver r s) site = slotAt s site := fun _ => rfl
    unfold serveResultRead
    simp only [sameSlot]
    split
    · rfl
    · split <;> rfl
  exact receiveRequest_answers (r := .resultRead site) ready rfl (by simp [requestPayload]) nofun ignores

theorem exec_resultClear_answers {s : State} (tag site : Byte) (ready : Ready s) :
    exec (.resultClear tag site) s =
      .next (answered 0x94 tag (serveResultClear site s).1 (serveResultClear site s).2) := by
  have ignores : IgnoresReceiver (serveResultClear site) := fun r s => by
    unfold serveResultClear
    split
    · rfl
    · next sites _ =>
      have cleared : sites.foldl clearSlot (setReceiver r s) = setReceiver r (sites.foldl clearSlot s) :=
        List.foldl_hom (setReceiver r) fun _ _ => rfl
      rw [cleared]
      rfl
  exact receiveRequest_answers (r := .resultClear site) ready rfl (by simp [requestPayload]) nofun ignores

/-- Settles O41: the parts of a record that go by figure are those of the figure order, and each request's answer is that
of its owner: an empty list or slot, a byte that names no site, a NEW or READ slot, one site or all of them. -/
theorem resultRequestsReturnAndClear : Obligations.ResultRequestsReturnAndClear := by
  unfold Obligations.ResultRequestsReturnAndClear
  refine ⟨fun r => ?_, fun tag s ready empty => ?_, fun tag site s ready bad => ⟨?_, fun one => ?_⟩,
    fun tag site s ready => ⟨fun r rest head once holds => ?_, fun empty => ?_, fun r holds => ?_, fun r holds => ?_, ?_⟩,
    fun tag s ready => ?_⟩
  · intro bits detail figure status mode verdict recordFlags mask
    refine ⟨figureMask fun name => (figureOf r.figures name).value.isSome, figureMask fun name => r.failing.contains name,
      figureMask_holds fun name => Iff.rfl, figureMask_holds fun name => List.contains_iff_mem, ?_⟩
    have hdetail : detail = detailBytes r.status := by
      unfold detail
      cases r.status <;> rfl
    have hstatus : status = endingCode r.status := by
      unfold status
      cases r.status <;> rfl
    have hmode : mode = modeCode r.mode := by
      unfold mode
      cases r.mode <;> rfl
    have hverdict : verdict = verdictCode r.verdict := by
      unfold verdict
      cases r.verdict <;> rfl
    have hfigures : (List.finRange 14).flatMap figure = figureOrder.flatMap (figureBytes r.figures) := by
      rw [← flatMap_figureOrder]
      exact congrArg figureOrder.flatMap (funext fun name => (figureBytes_eq r.figures name).symm)
    have hmask : mask = byteOfBits (!(detailBytes r.status).isEmpty) (!r.channels.isEmpty) r.segmentExponent.isSome
        r.bin.isSome false false false false := by
      unfold mask
      rw [hdetail, not_isEmpty_eq_decide, not_isEmpty_eq_decide]
    rw [hdetail, hstatus, hmode, hverdict, hfigures, hmask, ← map_figureOrder, ← optionalByte_eq_toList_map,
      ← optionalByte_eq_toList_map]
    rfl
  · rw [exec_resultNext_answers tag ready, serveResultNext_of_nil empty]
    rfl
  · rw [exec_resultRead_answers tag site ready, serveResultRead_of_bad_site s bad]
    rfl
  · rw [exec_resultClear_answers tag site ready, serveResultClear_of_bad_site s bad one]
    rfl
  · rw [exec_resultNext_answers tag ready, serveResultNext_of_new head holds, markRead_of_head r head once]
    rfl
  · rw [exec_resultRead_answers tag _ ready, serveResultRead_of_empty empty]
    rfl
  · rw [exec_resultRead_answers tag _ ready, serveResultRead_of_new holds]
    rfl
  · rw [exec_resultRead_answers tag _ ready, serveResultRead_of_read holds]
    rfl
  · rw [exec_resultClear_answers tag _ ready, serveResultClear_of_site]
    rfl
  · rw [exec_resultClear_answers tag _ ready, serveResultClear_of_all]
    rfl

end Sys2Proof.Machine
end

section
/-! SUPPORT. IDENTIFY and STATUS (R181, R182): the places of a list in a reply, how many bytes each block of a STATUS reply
takes, what its blocks hold, and what the requests' owners answer. -/

namespace Sys2Proof.Machine

/-! ### Items in order and places of a list (R189) -/

/-- The items of a vector, one after the other, are those of its indices in order. -/
theorem flatMap_toList_eq_flatMap_finRange {α β : Type} {n : Nat} (v : Vector α n) (f : α → List β) :
    v.toList.flatMap f = (List.finRange n).flatMap fun i => f v[i] := by
  have items : v.toList = (List.finRange n).map fun i => v[i] := by
    apply List.ext_getElem <;> simp
  rw [items, List.flatMap_map]

/-- Blocks of one width take their number times that width. -/
theorem length_flatten_of_width {α : Type} {width : Nat} {blocks : List (List α)} (wide : ∀ b ∈ blocks, b.length = width) :
    blocks.flatten.length = blocks.length * width := by
  rw [List.length_flatten, List.sum_eq_card_nsmul _ width (by simpa using wide), List.length_map, smul_eq_mul]

theorem length_flatMap_of_width {α β : Type} {width : Nat} {f : α → List β} (wide : ∀ x, (f x).length = width)
    (items : List α) : (items.flatMap f).length = items.length * width := by
  rw [List.flatMap_def, length_flatten_of_width (by simpa using fun x _ => wide x), List.length_map]

/-- A list takes its count byte and all its places, however many of them are in use. -/
theorem length_placesBytes {width : Nat} (capacity : Nat) {mark : List Byte} {places : List (List Byte)}
    (markWide : mark.length = width) (wide : ∀ p ∈ places, p.length = width) :
    (placesBytes capacity mark places).length = capacity * width + 1 := by
  have taken : ∀ p ∈ (places ++ List.replicate capacity mark).take capacity, p.length = width := fun p hp => by
    obtain used | unused := List.mem_append.mp (List.mem_of_mem_take hp)
    · exact wide p used
    · exact List.eq_of_mem_replicate unused ▸ markWide
  rw [placesBytes, List.length_cons, length_flatten_of_width taken, List.length_take_of_le (by simp)]

/-! ### How many bytes each block of a STATUS reply takes (section 11.10) -/

@[simp] theorem length_jobIdBytes (id : Option Nat) : (jobIdBytes id).length = 2 := rfl

@[simp] theorem length_timebaseBytes (t : Timebase) : (timebaseBytes t).length = 5 := rfl

@[simp] theorem length_channelBytes (ch : Channel) : (channelBytes ch).length = 10 := rfl

@[simp] theorem length_recordStatusBytes (reading : Int) (record : CalRecord) :
    (recordStatusBytes reading record).length = 2 := rfl

@[simp] theorem length_sectionBytes (x : CalSection) : (sectionBytes x).length = 3 := by
  cases x <;> rfl

@[simp] theorem length_entryBytes (s : State) (e : Entry) : (entryBytes s e).length = 5 := by
  cases e <;> rfl

@[simp] theorem length_queueBytes (s : State) (queue : List Entry) : (queueBytes s queue).length = 51 :=
  length_placesBytes 10 rfl (by simp)

@[simp] theorem length_triggerBytes (t : Trigger) : (triggerBytes t).length = 4 := rfl

@[simp] theorem length_analysisBytes (s : State) : (analysisBytes s).length = 20 := by
  have places : (placesBytes 8 (jobIdBytes none) (s.analysisQueue.map fun item => jobIdBytes (some item.job))).length = 17 :=
    length_placesBytes 8 rfl (by simp)
  simp [analysisBytes, places]

@[simp] theorem length_limitPlace (t : LimitTable) (index : Fin 64) : (limitPlace t index).length = 2 := by
  unfold limitPlace
  split <;> rfl

@[simp] theorem length_limitBytes (t : LimitTable) : (limitBytes t).length = 133 := by
  simp [limitBytes, bytes32OfNat, bytes32, length_flatMap_of_width (length_limitPlace t)]

@[simp] theorem length_slotBytes (slot : Slot) : (slotBytes slot).length = 3 := rfl

@[simp] theorem length_resultBytes (s : State) : (resultBytes s).length = 68 := by
  have places : (placesBytes 16 [absentByte] (s.results.completion.map fun site => [siteCode site])).length = 17 :=
    length_placesBytes 16 rfl (by simp)
  simp [resultBytes, places, length_flatMap_of_width length_slotBytes]

@[simp] theorem length_linkBytes (l : Link) : (linkBytes l).length = 4 := rfl

/-- With its status byte, a STATUS reply has 396 bytes (R182). -/
theorem length_statusBytes (s : State) : (statusBytes s).length = 395 := by
  simp [statusBytes, bytes16OfNat, bytes16, length_flatMap_of_width length_channelBytes,
    length_flatMap_of_width (length_recordStatusBytes _)]

/-! ### What the blocks hold -/

/-- The channel, calibration and slot items are those of the channels and sites in order (R35, R38, R168). -/
theorem statusBytes_eq (s : State) :
    statusBytes s =
      timebaseBytes s.timebase
      ++ (List.finRange 4).flatMap (fun c => channelBytes (channelOfState s c))
      ++ [pairCode (pairOf s .a), pairCode (pairOf s .b)]
      ++ (List.finRange 4).flatMap (fun c => recordStatusBytes s.timebase.temperature (recordOf s c))
      ++ sectionBytes (sectionOf s .a) ++ sectionBytes (sectionOf s .b)
      ++ queueBytes s (queueOf s .a) ++ queueBytes s (queueOf s .b)
      ++ [byteOfNat (liveJobs s).length] ++ bytes16OfNat s.jobCounter
      ++ triggerBytes s.trigger ++ analysisBytes s ++ limitBytes s.limits
      ++ ((List.finRange 16).flatMap (fun site => slotBytes (slotAt s site))
        ++ placesBytes 16 [absentByte] (s.results.completion.map fun site => [siteCode site])
        ++ [flagSetByte s.notices.flags, flagSetByte s.notices.enables, byteOfBool s.notices.idleHolds])
      ++ linkBytes s.link := by
  rw [statusBytes, resultBytes, flatMap_toList_eq_flatMap_finRange, flatMap_toList_eq_flatMap_finRange,
    flatMap_toList_eq_flatMap_finRange]
  rfl

/-! ### The commands -/

/-- IDENTIFY changes nothing, and its items do not depend on the state but for the reset cause (R181). -/
theorem exec_identify_answers {s : State} (tag : Byte) (ready : Ready s) :
    exec (.identify tag) s = .next (answered 0x81 tag (okReply (identifyBytes s.link.resetCause)) s) := by
  have ignores : IgnoresReceiver serveIdentify := fun _ _ => rfl
  exact receiveRequest_answers (r := .identify) ready rfl (by simp [requestPayload]) nofun ignores

/-- STATUS changes nothing, and no item of it depends on the receiver (R182). -/
theorem exec_status_answers {s : State} (tag : Byte) (ready : Ready s) :
    exec (.status tag) s = .next (answered 0x82 tag (okReply (statusBytes s)) s) := by
  have ignores : IgnoresReceiver serveStatus := fun _ _ => rfl
  exact receiveRequest_answers (r := .status) ready rfl (by simp [requestPayload]) nofun ignores

/-- Settles O6: the server is ready, so the replies are those of the requests' owners, and each item of the STATUS reply is
the model's own, block by block. -/
theorem identifyAndStatusAnswer : Obligations.IdentifyAndStatusAnswer := by
  unfold Obligations.IdentifyAndStatusAnswer
  refine ⟨⟨rfl, rfl, rfl, fun _ => rfl, rfl, rfl, rfl, rfl, rfl, fun _ _ _ => rfl, fun _ _ _ _ _ _ _ _ => rfl, rfl, rfl, rfl,
    fun _ _ _ => rfl, fun _ => rfl, rfl⟩, fun tag s ready => ?_⟩
  intro word byte places flagSet channel calibration calSection entry queue limit slot status
  have hcalibration : calibration = fun c => recordStatusBytes s.timebase.temperature (recordOf s c) := by
    funext c
    unfold calibration
    cases recordOf s c <;> simp [recordStatusBytes, isStale, byteOfBool]
  have hsection : ∀ g, calSection g = sectionBytes (sectionOf s g) := fun g => by
    unfold calSection
    cases sectionOf s g <;> rfl
  have hentry : entry = entryBytes s := by
    funext e
    cases e <;> rfl
  have hlimit : limit = limitPlace s.limits := rfl
  have hslot : slot = fun site => slotBytes (slotAt s site) := by
    funext site
    unfold slot
    cases slotAt s site <;> rfl
  have hstatus : status = statusBytes s := by
    rw [statusBytes_eq]
    unfold status queue
    rw [hcalibration, hsection, hsection, hentry, hlimit, hslot, analysisBytes, limitBytes]
    simp only [List.append_assoc]
    rfl
  rw [hstatus]
  exact ⟨exec_identify_answers tag ready, exec_status_answers tag ready, congrArg (· + 1) (length_statusBytes s)⟩

end Sys2Proof.Machine
end

section
/-! SUPPORT. What a step is made of: every command and every event of the part's own clocks is a sequence of blocks, each one
operation of one block of the part with what its guard tells. -/

namespace Sys2Proof.Machine

/-- One operation of one block of the part, with the guard it stands behind. -/
inductive Block : State → State → Prop where
  /-- The link interface moves; the hold grows to four frames at most, and the fault list to four replies (R175). -/
  | link (l : Link) (s : State) (hold : l.hold.length ≤ max 4 s.link.hold.length)
      (faults : l.faults.length ≤ max 4 s.link.faults.length) : Block s (setLink l s)
  | trigger (x : Trigger) (s : State) : Block s { s with trigger := x }
  | notices (n : Notices) (s : State) (followed : n.idleHolds = s.notices.idleHolds) : Block s { s with notices := n }
  | timebase (x : Timebase) (s : State) (sameState : x.refState = s.timebase.refState) : Block s { s with timebase := x }
  | gateEnd (edges : Nat) (s : State) : Block s (endGate edges s)
  | unlockReport (s : State) : Block s (reportUnlock s)
  | powerOn (receiveLine triggerLine : Level) (sample : Option Int) (s : State) :
      Block s (powerOn receiveLine triggerLine sample s)
  | reset (tx : Transmitter) (detector : Detector) (low : Nat) (cause : ResetCause) (s : State) :
      Block s (resetBlocks (Link.afterReset tx detector low cause) s)
  | calSettlingEnd (g : Group) (s : State) : Block s (endCalSettling g s)
  | code (g : Group) (code : Byte) (s : State) : Block s (deliverCode g code s)
  | codeDensityEnd (g : Group) (s : State) : Block s (endCodeDensity g s)
  | floorGate (g : Group) (s : State) : Block s (openFloorGate g s)
  | floorEdge (g : Group) (code : Byte) (s : State) : Block s (takeFloorEdge g code s)
  | floorTimeout (g : Group) (s : State) : Block s (expireFloorTimeout g s)
  | floorComputation (g : Group) (s : State) : Block s (endFloorComputation g s)
  | settlingEnd (c : ChannelId) (s : State) : Block s (endSettling c s)
  | edge (c : ChannelId) (code : Byte) (s : State) : Block s (takeComparatorEdge c code s)
  | edgeTimeout (c : ChannelId) (s : State) : Block s (expireEdgeTimeout c s)
  | engine (e : Engine) (s : State) (sameItem : engineItem e = engineItem s.engine) : Block s (setEngine e s)
  | enginePost (s : State) : Block s (enginePost s)
  | triggerTaken (s : State) : Block s (takeTrigger s)
  | channelConfig (c : ChannelId) (config : ChannelConfig) (s : State) (idle : (channelOfState s c).state = .idle) :
      Block s (setChannel c { channelOfState s c with config } s)
  | invalidate (c : ChannelId) (s : State) (idle : (channelOfState s c).state = .idle) : Block s (setRecord c .uncal s)
  | calibrate (c : ChannelId) (s : State) (notQueued : Entry.calibration c ∉ queueOf s (groupOfChannel c)) :
      Block s (followIdle (examine (groupOfChannel c)
        (setQueue (groupOfChannel c) (queueOf s (groupOfChannel c) ++ [.calibration c]) s)))
  | limitEntry (index : Fin 64) (e : Option LimitSet) (s : State) (within : index.val < s.limits.extent)
      (notInUse : inUseOf s index = 0) : Block s (setEntry index e s)
  | limitExtent (extent : Nat) (s : State) (least : 1 ≤ extent) (greatest : extent ≤ 64)
      (beyond : ∀ index : Fin 64, extent ≤ index.val → s.limits.entries[index] = none) :
      Block s { s with limits := { s.limits with extent } }
  | lot (lot : Nat) (s : State) : Block s { s with limits := { s.limits with currentLot := lot } }
  | submit (f : JobFields) (draft : Job) (s : State) (drafted : draftJob f = .ok draft)
      (passes : submissionFault s draft = none) :
      Block s (followIdle (examine (groupOfSite draft.site) (acceptJob { draft with id := assignedId s } s)))
  | cancel (site : Site) (j : Job) (s : State) (live : jobAt s site = some j) : Block s (cancelJob j s)
  | resultRead (site : Site) (r : ResultRecord) (s : State) : Block s (markRead site r s)
  | resultClear (site : Site) (s : State) : Block s (clearSlot s site)

/-- A sequence of blocks. -/
abbrev Blocks : State → State → Prop :=
  Relation.ReflTransGen Block

/-- What every block keeps, a sequence of blocks keeps. -/
theorem Blocks.keep {P : State → Prop} (kept : ∀ s t, Block s t → P s → P t) {s t : State} (blocks : Blocks s t)
    (holds : P s) : P t := by
  induction blocks with
  | refl => exact holds
  | tail _ block ih => exact kept _ _ block ih

theorem Blocks.of_eq {s t : State} (same : t = s) : Blocks s t :=
  same ▸ .refl

/-! ### Coarse time -/

theorem passTicks_blocks (ticks : Nat) (s : State) : Blocks s (passTicks ticks s) := by
  unfold passTicks
  split
  · exact .single (.timebase _ s rfl)
  · exact .refl

/-! ### Requests -/

theorem mem_of_calibrationQueued {s : State} {c : ChannelId} (queued : calibrationQueued s c = false) :
    Entry.calibration c ∉ queueOf s (groupOfChannel c) := by
  intro mem
  simp only [calibrationQueued, List.any_eq_false, decide_eq_true_eq] at queued
  exact queued _ mem rfl

theorem serveChannelConfig_blocks (channel : Byte) (threshold : BitVec 16) (termination edge : Byte) (s : State) :
    Blocks s (serveChannelConfig channel threshold termination edge s).2 := by
  unfold serveChannelConfig
  split
  · exact .refl
  · exact .refl
  · exact .refl
  · next c t e _ _ _ =>
    split
    · exact .refl
    · next idle =>
      have idle := not_not.mp idle
      have configured := Block.channelConfig c { threshold := usedThreshold threshold.toInt, termination := t, edge := e } s idle
      dsimp only
      split
      · exact .single configured
      · exact (Relation.ReflTransGen.single configured).tail (.invalidate c _ (by simpa using idle))

theorem serveCalibrate_blocks (channel : Byte) (s : State) : Blocks s (serveCalibrate channel s).2 := by
  unfold serveCalibrate
  split
  · exact .refl
  · next c _ =>
    dsimp only
    split
    · exact .refl
    · next notRunning =>
      simp only [Bool.or_eq_true, not_or, Bool.not_eq_true] at notRunning
      exact .single (.calibrate c s (mem_of_calibrationQueued notRunning.1))

theorem serveCalRead_snd (channel : Byte) (s : State) : (serveCalRead channel s).2 = s := by
  unfold serveCalRead
  split <;> rfl

theorem serveLimitWrite_blocks (f : LimitFields) (s : State) : Blocks s (serveLimitWrite f s).2 := by
  unfold serveLimitWrite
  split
  · exact .refl
  · next index e _ =>
    split
    · exact .refl
    · next within =>
      split
      · exact .refl
      · next notInUse => exact .single (.limitEntry index _ s (by omega) (by omega))

theorem serveLimitRead_snd (index : Byte) (s : State) : (serveLimitRead index s).2 = s := by
  unfold serveLimitRead
  split
  · rfl
  · split
    · rfl
    · split <;> rfl

theorem serveLimitDelete_blocks (index : Byte) (s : State) : Blocks s (serveLimitDelete index s).2 := by
  unfold serveLimitDelete
  split
  · exact .refl
  · next index _ =>
    split
    · exact .refl
    · next within =>
      split
      · exact .refl
      · split
        · exact .refl
        · next notInUse => exact .single (.limitEntry index _ s (by omega) (by omega))

/-- An extent that is not blocked leaves no defined entry beyond it (R142). -/
theorem entries_beyond_of_not_blocked {s : State} {extent : Nat}
    (free : ((highestDefined s).filter fun index => decide (extent ≤ index.val)) = none) (index : Fin 64)
    (beyond : extent ≤ index.val) : s.limits.entries[index] = none := by
  by_contra defined
  have isSome : (s.limits.entries[index]).isSome = true := Option.isSome_iff_ne_none.mpr defined
  rcases found : highestDefined s with _ | top
  · have none := List.find?_eq_none.mp found index (List.mem_reverse.mpr (List.mem_finRange index))
    exact none isSome
  · simp only [found, Option.filter_some, decide_eq_true_eq, ite_eq_right_iff, reduceCtorEq, imp_false] at free
    obtain ⟨-, before, after, split, missed⟩ := List.find?_eq_some_iff_append.mp found
    have mem : index ∈ before ++ top :: after := split ▸ List.mem_reverse.mpr (List.mem_finRange index)
    have sorted : (before ++ top :: after).Pairwise (· > ·) :=
      split ▸ List.pairwise_reverse.mpr (List.pairwise_lt_finRange 64)
    rcases List.mem_append.mp mem with inBefore | inAfter
    · have := missed index inBefore
      simp_all
    · rcases List.mem_cons.mp inAfter with same | inRest
      · omega
      · have := List.rel_of_pairwise_cons (List.pairwise_append.mp sorted).2.1 inRest
        omega

theorem serveLimitExtent_blocks (extent : Byte) (s : State) : Blocks s (serveLimitExtent extent s).2 := by
  unfold serveLimitExtent
  split
  · exact .refl
  · next e inRange =>
    split
    · exact .refl
    · next free =>
      have bounds : 1 ≤ e ∧ e ≤ 64 := by
        unfold Machine.inRange at inRange
        split at inRange
        · next within => exact Option.some.inj inRange ▸ within
        · exact absurd inRange (by simp)
      exact .single (.limitExtent e s bounds.1 bounds.2 (entries_beyond_of_not_blocked free))

theorem serveLimitProbe_snd (index spectral bands spots : Byte) (fNom : BitVec 32) (s : State) :
    (serveLimitProbe index spectral bands spots fNom s).2 = s := by
  unfold serveLimitProbe
  split <;> rfl

theorem serveLotOpen_blocks (lot : BitVec 32) (s : State) : Blocks s (serveLotOpen lot s).2 := by
  unfold serveLotOpen
  split
  · exact .refl
  · split
    · exact .refl
    · exact .single (.lot lot.toNat s)

theorem serveJobSubmit_blocks (f : JobFields) (s : State) : Blocks s (serveJobSubmit f s).2 := by
  unfold serveJobSubmit
  split
  · exact .refl
  · next draft drafted =>
    split
    · exact .refl
    · next passes => exact .single (.submit f draft s drafted passes)

theorem serveJobCancel_blocks (site : Byte) (s : State) : Blocks s (serveJobCancel site s).2 := by
  unfold serveJobCancel
  split
  · exact .refl
  · next site _ =>
    split
    · exact .refl
    · next j live => exact .single (.cancel site j s live)

theorem serveTriggerConfig_blocks (polarity : Byte) (s : State) : Blocks s (serveTriggerConfig polarity s).2 := by
  unfold serveTriggerConfig
  split
  · exact .refl
  · split
    · exact .refl
    · dsimp only
      split
      · exact .refl
      · exact .single (.trigger _ s)

theorem serveResultNext_blocks (s : State) : Blocks s (serveResultNext s).2 := by
  unfold serveResultNext
  split
  · exact .refl
  · next site _ _ =>
    split
    · exact .refl
    · next r _ => exact .single (.resultRead site r s)

theorem serveResultRead_blocks (site : Byte) (s : State) : Blocks s (serveResultRead site s).2 := by
  unfold serveResultRead
  split
  · exact .refl
  · next site _ =>
    split
    · exact .refl
    · next r _ => exact .single (.resultRead site r s)
    · exact .refl

theorem foldl_clearSlot_blocks (sites : List Site) (s : State) : Blocks s (sites.foldl clearSlot s) := by
  induction sites generalizing s with
  | nil => exact .refl
  | cons site sites ih => exact (ih (clearSlot s site)).head (.resultClear site s)

theorem serveResultClear_blocks (site : Byte) (s : State) : Blocks s (serveResultClear site s).2 := by
  unfold serveResultClear
  split
  · exact .refl
  · exact foldl_clearSlot_blocks _ s

theorem serveNoticeEnable_blocks (e0 e1 e2 e3 e4 : Byte) (s : State) : Blocks s (serveNoticeEnable e0 e1 e2 e3 e4 s).2 := by
  unfold serveNoticeEnable
  split
  · exact .refl
  · exact .single (.notices _ s rfl)

theorem serveNoticeClear_blocks (flags : Byte) (s : State) : Blocks s (serveNoticeClear flags s).2 := by
  unfold serveNoticeClear
  split
  · exact .refl
  · exact .single (.notices _ s rfl)

/-- Every request is a sequence of blocks (R176). -/
theorem serveRequest_blocks (r : Request) (s : State) : Blocks s (serveRequest r s).2 := by
  cases r with
  | identify => exact .refl
  | status => exact .refl
  | channelConfig channel threshold termination edge => exact serveChannelConfig_blocks channel threshold termination edge s
  | calibrate channel => exact serveCalibrate_blocks channel s
  | calRead channel =>
    exact .of_eq (serveCalRead_snd channel s)
  | limitExtent extent => exact serveLimitExtent_blocks extent s
  | limitWrite entry => exact serveLimitWrite_blocks entry s
  | limitRead index => exact .of_eq (serveLimitRead_snd index s)
  | limitDelete index => exact serveLimitDelete_blocks index s
  | limitProbe index spectral bands spots fNom =>
    exact .of_eq (serveLimitProbe_snd index spectral bands spots fNom s)
  | lotOpen lot => exact serveLotOpen_blocks lot s
  | jobSubmit job => exact serveJobSubmit_blocks job s
  | jobStatus site => exact .of_eq (serveJobStatus_snd site s)
  | jobCancel site => exact serveJobCancel_blocks site s
  | triggerConfig polarity => exact serveTriggerConfig_blocks polarity s
  | triggerArm => exact .single (.trigger _ s)
  | triggerDisarm => exact .single (.trigger _ s)
  | resultNext => exact serveResultNext_blocks s
  | resultRead site => exact serveResultRead_blocks site s
  | resultClear site => exact serveResultClear_blocks site s
  | noticeEnable e0 e1 e2 e3 e4 => exact serveNoticeEnable_blocks e0 e1 e2 e3 e4 s
  | noticeClear flags => exact serveNoticeClear_blocks flags s
  | reset => exact .single (.link _ s (by simp) (by simp))

/-! ### The link -/

/-- The link interface moves without a longer hold or fault list. -/
theorem setLink_blocks {l : Link} {s : State} (hold : l.hold.length ≤ s.link.hold.length)
    (faults : l.faults.length ≤ s.link.faults.length) : Blocks s (setLink l s) :=
  .single (.link l s (by omega) (by omega))

theorem serveFrame_blocks (f : Frame) (s : State) : Blocks s (serveFrame f s) := by
  unfold serveFrame
  split
  · exact setLink_blocks (le_refl _) (le_refl _)
  · next r _ => exact (serveRequest_blocks r s).trans (setLink_blocks (le_refl _) (le_refl _))

theorem serverTakes_blocks (s : State) : Blocks s (serverTakes s) := by
  unfold serverTakes
  split
  · next f rest _ held =>
    split
    · exact (setLink_blocks (l := { s.link with hold := rest }) (by simp [held]) (le_refl _)).trans (serveFrame_blocks f _)
    · exact .refl
  · exact .refl

theorem offerFrame_blocks (f : Frame) (s : State) : Blocks s (offerFrame f s) := by
  unfold offerFrame
  split
  · exact .refl
  · split
    · next room =>
      unfold linkPlaces at room
      exact (Relation.ReflTransGen.single (.link _ s (by simp; omega) (by simp))).trans (serverTakes_blocks _)
    · split
      · next room =>
        unfold linkPlaces at room
        exact .single (.link _ s (by simp) (by simp; omega))
      · exact .refl

theorem receiveFrame_blocks (f : Frame) (s : State) : Blocks s (receiveFrame f s) := by
  have hunting : Blocks s (setReceiver .hunt s) := setLink_blocks (le_refl _) (le_refl _)
  unfold receiveFrame
  split
  · exact hunting.trans (offerFrame_blocks f _)
  · exact hunting

theorem setReceiver_blocks (r : Receiver) (s : State) : Blocks s (setReceiver r s) :=
  setLink_blocks (le_refl _) (le_refl _)

theorem receiveByte_blocks (b : Byte) (stopBit : Level) (s : State) : Blocks s (receiveByte b stopBit s) := by
  unfold receiveByte
  split
  · unfold deliverByte
    split
    · split
      · exact setReceiver_blocks _ s
      · exact .refl
    · exact setReceiver_blocks _ s
    · split
      · exact setReceiver_blocks _ s
      · exact setReceiver_blocks _ s
    · split
      · exact receiveFrame_blocks _ s
      · exact setReceiver_blocks _ s
  · exact setReceiver_blocks _ s

theorem sendServerReply_blocks (s : State) : Blocks s (sendServerReply s) := by
  unfold sendServerReply
  split
  · exact .refl
  · exact setLink_blocks (le_refl _) (le_refl _)
  · exact setLink_blocks (le_refl _) (le_refl _)

theorem startTransmission_blocks (s : State) : Blocks s (startTransmission s) := by
  have cleared : Blocks s (clearDue s) := .single (.notices _ s rfl)
  unfold startTransmission
  split
  · exact .refl
  · exact .refl
  · split
    · next f rest waiting =>
      exact (setLink_blocks (s := s) (l := { s.link with faults := rest }) (le_refl _) (by simp [waiting])).trans
        (setLink_blocks (le_refl _) (le_refl _))
    · unfold chooseAfterFaults
      split
      · split
        · exact cleared.trans (setLink_blocks (le_refl _) (le_refl _))
        · exact cleared.trans (sendServerReply_blocks _)
      · exact sendServerReply_blocks s

theorem endServerReply_blocks (s : State) : Blocks s (endServerReply s) := by
  unfold endServerReply
  split
  · exact .refl
  · exact (setLink_blocks (l := { s.link with server := .idle }) (le_refl _) (le_refl _)).trans (serverTakes_blocks _)
  · exact .single (.reset _ _ _ _ s)

theorem endTransmission_blocks (s : State) : Blocks s (endTransmission s) := by
  unfold endTransmission
  split
  · exact .refl
  · exact setLink_blocks (le_refl _) (le_refl _)
  · refine (setLink_blocks (s := s) (l := { s.link with transmitter := .betweenFrames }) (le_refl _) (le_refl _)).trans ?_
    dsimp only
    split
    · exact endServerReply_blocks _
    · exact .refl
    · exact .refl

theorem detectBreak_blocks (s : State) : Blocks s (detectBreak s) := by
  unfold detectBreak
  split
  · exact .single (.reset _ _ _ _ s)
  · exact .refl

theorem senseReceiveLine_blocks (level : Level) (s : State) : Blocks s (senseReceiveLine level s) := by
  unfold senseReceiveLine
  split
  · exact setLink_blocks (le_refl _) (le_refl _)
  · unfold countLowPeriod
    have counted : Blocks s (setLink { s.link with lowPeriods := s.link.lowPeriods + 1 } s) :=
      setLink_blocks (le_refl _) (le_refl _)
    dsimp only
    split
    · exact counted.trans (detectBreak_blocks _)
    · exact counted

/-! ### The trigger -/

theorem completeQualification_blocks (s : State) : Blocks s (completeQualification s) := by
  unfold completeQualification
  dsimp only
  split
  · exact (Relation.ReflTransGen.single (.trigger _ s)).tail (.triggerTaken _)
  · exact .single (.trigger _ s)

theorem senseTrigger_blocks (level : Level) (s : State) : Blocks s (senseTrigger level s) := by
  unfold senseTrigger
  split
  · exact .single (.trigger _ s)
  · split
    · unfold countPeriod
      split
      · exact .refl
      · split
        · exact completeQualification_blocks s
        · exact .single (.trigger _ s)
    · exact .single (.trigger _ s)

/-! ### The engine -/

theorem finishSegments_blocks (count : Nat) (s : State) : Blocks s (finishSegments count s) := by
  unfold finishSegments
  split
  · next passing =>
    split
    · exact .single (.engine _ s (by rw [passing]; rfl))
    · exact .refl
  · exact .refl

theorem endTimePass_blocks (s : State) : Blocks s (endTimePass s) := by
  unfold endTimePass
  split
  · next passing =>
    split
    · exact .single (.engine _ s (by rw [passing, afterTimePass_item]; rfl))
    · exact .refl
  · exact .refl

theorem endSpectralPass_blocks (s : State) : Blocks s (endSpectralPass s) := by
  refine (finishSegments_blocks (segmentsLeft s) s).trans ?_
  unfold endSpectralPass formSpectral
  split
  · next passing =>
    split
    · exact .single (.engine _ _ (by rw [passing]; rfl))
    · exact .refl
  · exact .refl

/-! ### Edges -/

theorem edgeAfter_blocks (c : ChannelId) (ticks : Nat) (code : Byte) (s : State) : Blocks s (edgeAfter c ticks code s) := by
  unfold edgeAfter
  split
  · exact (passTicks_blocks ticks s).tail (.edge c code _)
  · exact .refl

theorem floorEdgeAfter_blocks (g : Group) (ticks : Nat) (code : Byte) (s : State) :
    Blocks s (floorEdgeAfter g ticks code s) := by
  unfold floorEdgeAfter
  split
  · split
    · exact (passTicks_blocks ticks s).tail (.floorEdge g code _)
    · exact .refl
  · exact .refl

/-- A row that names one outcome of a wider event brings about that event or nothing (log 2). -/
theorem ite_blocks {p : Prop} [Decidable p] {s t : State} (blocks : Blocks s t) : Blocks s (if p then t else s) := by
  split
  · exact blocks
  · exact .refl

/-! ### Commands and events -/

/-- Every command answers a next state, which a sequence of blocks reaches. -/
theorem exec_blocks (c : Instr) (s : State) : ∃ t, exec c s = .next t ∧ Blocks s t := by
  cases c with
  | powerOn receiveLine triggerLine sample => exact ⟨_, rfl, .single (.powerOn receiveLine triggerLine sample s)⟩
  | gateEnd edges => exact ⟨_, rfl, .single (.gateEnd _ s)⟩
  | multiplierLockReport => exact ⟨_, rfl, .single (.timebase _ s rfl)⟩
  | multiplierUnlockReport => exact ⟨_, rfl, .single (.unlockReport s)⟩
  | temperatureSample x =>
    exact ⟨_, rfl, (Relation.ReflTransGen.single (.timebase _ s rfl)).trans (serverTakes_blocks (takeSample x s))⟩
  | calSettlingEnd g => exact ⟨_, rfl, .single (.calSettlingEnd g s)⟩
  | codeDensityHit g code => exact ⟨_, rfl, .single (.code g code s)⟩
  | histogramFull g code => exact ⟨_, rfl, ite_blocks (.single (.code g code s))⟩
  | codeDensityPassEnd g => exact ⟨_, rfl, .single (.codeDensityEnd g s)⟩
  | floorGateOpen g => exact ⟨_, rfl, .single (.floorGate g s)⟩
  | floorTimestamp g ticks code => exact ⟨_, rfl, floorEdgeAfter_blocks g ticks code s⟩
  | floorEdgeTimeout g => exact ⟨_, rfl, .single (.floorTimeout g s)⟩
  | floorRecordFull g ticks code => exact ⟨_, rfl, ite_blocks (floorEdgeAfter_blocks g ticks code s)⟩
  | floorComputationEnd g => exact ⟨_, rfl, .single (.floorComputation g s)⟩
  | settlingEnd c => exact ⟨_, rfl, .single (.settlingEnd c s)⟩
  | comparatorEdge c ticks code => exact ⟨_, rfl, edgeAfter_blocks c ticks code s⟩
  | prescaledEdge c ticks code => exact ⟨_, rfl, ite_blocks (edgeAfter_blocks c ticks code s)⟩
  | edgeTimeout c => exact ⟨_, rfl, .single (.edgeTimeout c s)⟩
  | recordComplete c ticks code => exact ⟨_, rfl, ite_blocks (edgeAfter_blocks c ticks code s)⟩
  | pairRecordFull c ticks code => exact ⟨_, rfl, ite_blocks (edgeAfter_blocks c ticks code s)⟩
  | timePassEnd => exact ⟨_, rfl, endTimePass_blocks s⟩
  | spectralPassEnd => exact ⟨_, rfl, endSpectralPass_blocks s⟩
  | enginePost => exact ⟨_, rfl, .single (.enginePost s)⟩
  | triggerLineChange level => exact ⟨_, rfl, by unfold triggerLineChange; split; exacts [.refl, senseTrigger_blocks level s]⟩
  | qualifiedEdge => exact ⟨_, rfl, by unfold qualifiedEdge; split; exacts [completeQualification_blocks s, .refl]⟩
  | frameReceived f => exact ⟨_, rfl, receiveFrame_blocks f s⟩
  | interByteGapExpiry => exact ⟨_, rfl, setReceiver_blocks .hunt s⟩
  | linkCheckFault f => exact ⟨_, rfl, ite_blocks (receiveFrame_blocks f s)⟩
  | transmitStart => exact ⟨_, rfl, startTransmission_blocks s⟩
  | transmitFrameEnd => exact ⟨_, rfl, endTransmission_blocks s⟩
  | linkBreak => exact ⟨_, rfl, detectBreak_blocks s⟩
  | breakDetectorRearm => exact ⟨_, rfl, setLink_blocks (le_refl _) (le_refl _)⟩
  | byteReceived b stopBit => exact ⟨_, rfl, receiveByte_blocks b stopBit s⟩
  | _ => exact ⟨_, rfl, receiveFrame_blocks _ s⟩

theorem channelEvent_blocks (c : ChannelId) (s : State) : Blocks s (channelEvent c s) := by
  unfold channelEvent
  split
  · exact .refl
  · exact .single (.settlingEnd c s)
  · exact .single (.edgeTimeout c s)
  · unfold passEvent
    split
    · exact .refl
    · split
      · exact .single (.calSettlingEnd _ s)
      · exact .single (.floorGate _ s)
      · exact .single (.floorTimeout _ s)

/-- Every event of the part's own clocks is a sequence of blocks (log 5). -/
theorem idleEvent_blocks (e : IdleEvent) (s : State) : Blocks s (idleEvent e s) := by
  cases e with
  | referenceEdge => exact .single (.timebase _ s rfl)
  | coarseTick => exact ite_blocks (passTicks_blocks 1 s)
  | channelDue c => exact ite_blocks (channelEvent_blocks c s)
  | internalPeriod triggerLine receiveLine =>
    exact (senseTrigger_blocks triggerLine s).trans (senseReceiveLine_blocks receiveLine _)
  | segmentEnd => exact ite_blocks (finishSegments_blocks 1 s)

/-- What every block keeps, and what the model's own fields do not bear on, every step keeps. -/
theorem step_keeps {P : State → Prop} (own : ∀ s pending freeIndex, P s → P { s with pending, freeIndex })
    (kept : ∀ s t, Block s t → P s → P t) {s t : State} (next : step s = .next t) (holds : P s) : P t := by
  unfold step at next
  split at next
  · cases next
    exact (idleEvent_blocks _ _).keep kept (own s s.pending (s.freeIndex + 1) holds)
  · next c rest _ =>
    obtain ⟨u, answer, blocks⟩ := exec_blocks c { s with pending := rest }
    rw [answer] at next
    cases next
    exact blocks.keep kept (own s rest s.freeIndex holds)

end Sys2Proof.Machine
end

section
/-! SUPPORT. The ledger of the part: its live jobs, its id counter, its limit table and its results, with the link and the
queue of commands. What a block can do to it is said once, as moves; each invariant of the ledger is then a case analysis
of the moves. -/

namespace Sys2Proof.Machine

/-- The fields the moves of the ledger speak of. -/
def ledgerOf (s : State) : Vector (Option Job) 16 × Nat × LimitTable × Results × Link × List Instr :=
  (s.jobs, s.jobCounter, s.limits, s.results, s.link, s.pending)

/-- What the blocks but those of the link and the resets can do to the ledger. -/
inductive Ledger : State → State → Prop where
  | frame {s t : State} (same : ledgerOf t = ledgerOf s) : Ledger s t
  | trans {s t u : State} (first : Ledger s t) (second : Ledger t u) : Ledger s u
  /-- A live job's record changes in place, and keeps its id, its site and its limit entry. -/
  | change {s : State} {site : Site} {j j' : Job} (live : jobAt s site = some j) (sameId : j'.id = j.id)
      (sameSite : j'.site = j.site) (sameLimit : j'.limit = j.limit) : Ledger s (setJob j.site (some j') s)
  | release (s : State) : Ledger s { s with jobs := s.jobs.map (Option.map releaseHeld) }
  | finish {s : State} {site : Site} {j : Job} (w : Working) (live : jobAt s site = some j) : Ledger s (finishJob j w s)
  | accept {f : JobFields} {draft : Job} {s : State} (drafted : draftJob f = .ok draft)
      (passes : submissionFault s draft = none) : Ledger s (acceptJob { draft with id := assignedId s } s)
  | limitEntry {index : Fin 64} {s : State} (e : Option LimitSet) (within : index.val < s.limits.extent)
      (notInUse : inUseOf s index = 0) : Ledger s (setEntry index e s)
  | limitExtent {extent : Nat} {s : State} (least : 1 ≤ extent) (greatest : extent ≤ 64)
      (beyond : ∀ index : Fin 64, extent ≤ index.val → s.limits.entries[index] = none) :
      Ledger s { s with limits := { s.limits with extent } }
  | lot (lot : Nat) (s : State) : Ledger s { s with limits := { s.limits with currentLot := lot } }
  | read (site : Site) (r : ResultRecord) (s : State) : Ledger s (markRead site r s)
  | clear (site : Site) (s : State) : Ledger s (clearSlot s site)

theorem Ledger.refl (s : State) : Ledger s s := .frame rfl

/-- A change the ledger does not see, before a move. -/
theorem Ledger.since {s t u : State} (moved : Ledger t u) (same : ledgerOf t = ledgerOf s) : Ledger s u :=
  (Ledger.frame same).trans moved

/-- A change the ledger does not see, after a move. -/
theorem Ledger.until {s t u : State} (moved : Ledger s t) (same : ledgerOf u = ledgerOf t) : Ledger s u :=
  moved.trans (.frame same)

theorem Ledger.of_eq {s t : State} (same : t = s) : Ledger s t := same ▸ .refl s

/-- A fold of operations moves the ledger as each of them does. -/
theorem Ledger.foldl {α : Type} {f : State → α → State} (each : ∀ s x, Ledger s (f s x)) (xs : List α) (s : State) :
    Ledger s (xs.foldl f s) := by
  induction xs generalizing s with
  | nil => exact .refl s
  | cons x xs ih => exact (each s x).trans (ih (f s x))

/-! ### The job block -/

theorem updateJob_ledger {id : Nat} {change : Job → Job} (kept : ∀ j, (change j).id = j.id ∧ (change j).site = j.site ∧
    (change j).limit = j.limit) (s : State) : Ledger s (updateJob id change s) := by
  unfold updateJob
  split
  · next j found =>
    obtain ⟨-, site, live⟩ := jobWithId_some found
    obtain ⟨sameId, sameSite, sameLimit⟩ := kept j
    exact .change live sameId sameSite sameLimit
  · exact .refl s

theorem setJobState_ledger (id : Nat) (state : JobState) (s : State) : Ledger s (setJobState id state s) :=
  updateJob_ledger (change := fun j => { j with state }) (fun _ => ⟨rfl, rfl, rfl⟩) s

theorem endJob_ledger (id : Nat) (status : Ending) (s : State) : Ledger s (endJob id status s) := by
  unfold endJob
  split
  · exact .refl s
  · next j found =>
    obtain ⟨-, site, live⟩ := jobWithId_some found
    exact .finish _ live

/-! ### The dispatchers -/

theorem foldl_takeDispatch_ledger (j : Job) (cs : List ChannelId) (s : State) : Ledger s (cs.foldl (takeDispatch j) s) :=
  .foldl (f := takeDispatch j) (fun _ _ => .frame rfl) cs s

theorem dispatchJob_ledger {g : Group} {site : Site} {j : Job} {cs : List ChannelId} {rest : List Entry} {s : State}
    (live : jobAt s site = some j) : Ledger s (dispatchJob g j cs rest s) := by
  have queued : Ledger s (setQueue g rest s) := .frame rfl
  have changed : Ledger (setQueue g rest s) (setJob j.site (some { j with channels := cs, state := .settling })
    (setQueue g rest s)) := .change (site := site) live rfl rfl rfl
  refine (queued.trans changed).trans ((foldl_takeDispatch_ledger j cs _).trans ?_)
  unfold dispatchJob
  dsimp only
  split
  · exact .frame rfl
  · exact .refl _

theorem examine_ledger (g : Group) (s : State) : Ledger s (examine g s) := by
  refine examine_preserves (P := Ledger s) (fun u t moved dispatched => moved.trans ?_) (.refl s)
  obtain ⟨c, rest, -, -, rfl⟩ | ⟨id, site, rest, j, cs, -, live, -, -, rfl⟩ := examineHead_cases dispatched
  · exact .frame rfl
  · exact dispatchJob_ledger live

theorem examineBoth_ledger (s : State) : Ledger s (examineBoth s) :=
  (examine_ledger .a s).trans (examine_ledger .b _)

theorem followIdle_ledger (s : State) : Ledger s (followIdle s) :=
  .frame (by simp [ledgerOf])

theorem raise_ledger (flag : NoticeFlag) (s : State) : Ledger s (raise flag s) :=
  .frame rfl

/-- An event that ends with the dispatcher's examination and the idle condition followed. -/
theorem Ledger.examined {s t : State} (moved : Ledger s t) (g : Group) : Ledger s (followIdle (examine g t)) :=
  (moved.trans (examine_ledger g t)).trans (followIdle_ledger _)

/-! ### The analysis queue -/

theorem takeItem_ledger (s : State) : Ledger s (takeItem s) := by
  unfold takeItem
  split
  · exact (setJobState_ledger _ _ _).since rfl
  · exact .refl s

theorem joinAnalysis_ledger (item : Item) (s : State) : Ledger s (joinAnalysis item s) :=
  ((setJobState_ledger item.job .analysisWait { s with analysisQueue := s.analysisQueue ++ [item] }).trans
    (takeItem_ledger _)).since rfl

theorem enginePost_ledger (s : State) : Ledger s (enginePost s) := by
  unfold enginePost
  split
  · next item w _ =>
    split
    · next j found =>
      obtain ⟨-, site, live⟩ := jobWithId_some found
      have freed : Ledger s (freeItemBanks item s) := .frame (by simp [ledgerOf])
      have finished : Ledger s (finishJob j w (freeItemBanks item s)) :=
        freed.trans (.finish (site := site) w (by simpa [jobAt] using live))
      exact ((finished.until (u := setEngine .idle (finishJob j w (freeItemBanks item s))) rfl).trans
        (takeItem_ledger _)).examined _
    · exact .refl s
  · exact .refl s

/-! ### Captures -/

theorem failCapture_ledger (c : ChannelId) (ctx : CaptureContext) (status : Ending) (s : State) :
    Ledger s (failCapture c ctx status s) :=
  ((endJob_ledger ctx.job status (stopCapture c ctx.mode s)).since (by simp [ledgerOf])).examined _

theorem completeSingle_ledger (c : ChannelId) (ctx : CaptureContext) (s : State) : Ledger s (completeSingle c ctx s) :=
  ((joinAnalysis_ledger { job := ctx.job, first := legOf c ctx, second := none } (fillBank c ctx s)).since (s := s) rfl).examined _

theorem completePair_ledger (g : Group) (low high : CaptureContext) (s : State) : Ledger s (completePair g low high s) :=
  ((joinAnalysis_ledger { job := low.job, first := legOf _ low, second := some (legOf _ high) }
    (setPair g .idle (fillBank (highChannel g) high (fillBank (lowChannel g) low s)))).since (s := s) rfl).examined g

theorem reportFull_ledger (c : ChannelId) (s : State) : Ledger s (reportFull c s) := by
  unfold reportFull
  dsimp only
  split
  · split
    · split
      · exact completePair_ledger _ _ _ s
      · exact .refl s
    · exact .frame rfl
  · exact .refl s

theorem takeTimestamp_ledger (c : ChannelId) (ctx : CaptureContext) (t : Timestamp) (s : State) :
    Ledger s (takeTimestamp c ctx t s) := by
  unfold takeTimestamp
  split
  · have stored : Ledger s (storeTimestamp c ctx t s) := .frame rfl
    dsimp only
    split
    · refine stored.trans ?_
      unfold endRecord
      split
      · exact completeSingle_ledger c ctx _
      · exact reportFull_ledger c _
    · exact stored
  · exact failCapture_ledger c ctx _ s

theorem toDueTick_ledger {c : ChannelId} {s t : State} (due : toDueTick c s = some t) : Ledger s t := by
  unfold toDueTick at due
  split at due
  · cases due
  · split at due
    · cases due
      exact .frame (by simp [ledgerOf])
    · cases due

theorem endSettling_ledger (c : ChannelId) (s : State) : Ledger s (endSettling c s) := by
  unfold endSettling
  split
  · split
    · next t due =>
      refine (toDueTick_ledger due).trans ?_
      unfold takeSettlingEnd
      split
      · exact .refl t
      · split
        · exact (setJobState_ledger _ _ _).since (by simp [ledgerOf])
        · unfold reportSettled
          dsimp only
          split
          · split
            · exact (setJobState_ledger _ _ _).since (by simp [ledgerOf])
            · exact .frame rfl
          · exact .refl t
    · exact .refl s
  · exact .refl s

theorem expireEdgeTimeout_ledger (c : ChannelId) (s : State) : Ledger s (expireEdgeTimeout c s) := by
  unfold expireEdgeTimeout
  split
  · exact .refl s
  · split
    · next due => exact (toDueTick_ledger due).trans (failCapture_ledger c _ _ _)
    · exact .refl s

/-! ### Calibration -/

theorem endCalibration_ledger (g : Group) (c : ChannelId) (record : CalRecord) (s : State) :
    Ledger s (endCalibration g c record s) :=
  let freed := setSection g .free (setRecord c record s)
  (((examine_ledger g (setChannel c { channelOfState freed c with state := .idle } freed)).trans
    (raise_ledger .calDone _)).trans (followIdle_ledger _)).since rfl

theorem endCalSettling_ledger (g : Group) (s : State) : Ledger s (endCalSettling g s) := by
  unfold endCalSettling
  split
  · exact .refl s
  · split
    · split
      · next due => exact (toDueTick_ledger due).trans (.frame rfl)
      · exact .refl s
    · exact .refl s

theorem deliverCode_ledger (g : Group) (code : Byte) (s : State) : Ledger s (deliverCode g code s) := by
  unfold deliverCode
  split
  · exact .refl s
  · split
    · exact .frame rfl
    · exact .refl s

theorem endCodeDensity_ledger (g : Group) (s : State) : Ledger s (endCodeDensity g s) := by
  unfold endCodeDensity
  split
  · exact .refl s
  · split
    · split
      · exact endCalibration_ledger g _ _ s
      · exact .frame rfl
    · exact .refl s

theorem openFloorGate_ledger (g : Group) (s : State) : Ledger s (openFloorGate g s) := by
  unfold openFloorGate
  split
  · exact .refl s
  · split
    · split
      · next due => exact (toDueTick_ledger due).trans (.frame rfl)
      · exact .refl s
    · exact .refl s

theorem takeFloorEdge_ledger (g : Group) (code : Byte) (s : State) : Ledger s (takeFloorEdge g code s) := by
  unfold takeFloorEdge
  split
  · exact .refl s
  · split
    · dsimp only
      split
      · exact .frame rfl
      · exact endCalibration_ledger g _ _ s
    · exact .refl s

theorem expireFloorTimeout_ledger (g : Group) (s : State) : Ledger s (expireFloorTimeout g s) := by
  unfold expireFloorTimeout
  split
  · exact .refl s
  · split
    · split
      · next due => exact (toDueTick_ledger due).trans (endCalibration_ledger g _ _ _)
      · exact .refl s
    · exact .refl s

theorem endFloorComputation_ledger (g : Group) (s : State) : Ledger s (endFloorComputation g s) := by
  unfold endFloorComputation
  split
  · exact .refl s
  · split
    · exact endCalibration_ledger g _ _ s
    · exact .refl s

theorem takeComparatorEdge_ledger (c : ChannelId) (code : Byte) (s : State) : Ledger s (takeComparatorEdge c code s) := by
  unfold takeComparatorEdge
  split
  · split
    · next ctx _ _ =>
      exact (takeTimestamp_ledger c ctx _ (setChannel c { channelOfState s c with count := 0 } s)).since rfl
    · exact .frame rfl
  · split
    · exact (deliverCode_ledger _ code s).trans (takeFloorEdge_ledger _ code _)
    · exact .refl s

/-! ### The reference -/

theorem loseCapture_ledger (s : State) (c : ChannelId) : Ledger s (loseCapture s c) := by
  unfold loseCapture
  split
  · exact .refl s
  · next ctx _ => exact (endJob_ledger _ _ (stopCapture c ctx.mode s)).since (by simp [ledgerOf])

theorem loseCalibration_ledger (s : State) (c : ChannelId) : Ledger s (loseCalibration s c) := by
  unfold loseCalibration
  split
  · exact .frame rfl
  · dsimp only
    split
    · split
      · exact .frame rfl
      · exact .frame rfl
    · exact .frame rfl
  · exact .refl s
  · exact .refl s

theorem referenceLoss_ledger (s : State) : Ledger s (referenceLoss s) :=
  ((((Ledger.foldl loseCapture_ledger (lossSequence s.freeIndex) { s with freeIndex := s.freeIndex + 1 }).trans
    (.foldl loseCalibration_ledger [0, 1, 2, 3] _)).trans (raise_ledger .refChange _)).trans (followIdle_ledger _)).since rfl

theorem endGate_ledger (edges : Nat) (s : State) : Ledger s (endGate edges s) := by
  unfold endGate
  dsimp only
  split
  · exact (referenceLoss_ledger _).since rfl
  · split
    · exact ((examineBoth_ledger (raise .refChange _)).trans (followIdle_ledger _)).since rfl
    · exact .frame rfl

theorem reportUnlock_ledger (s : State) : Ledger s (reportUnlock s) := by
  unfold reportUnlock
  dsimp only
  split
  · exact (referenceLoss_ledger _).since rfl
  · exact .frame rfl

/-! ### Trigger, requests -/

theorem takeTrigger_ledger (s : State) : Ledger s (takeTrigger s) :=
  let released : State := { s with jobs := s.jobs.map (Option.map releaseHeld) }
  let disarmed : State := { released with trigger := { s.trigger with state := .disarmed } }
  (((Ledger.release s).until (u := raise .triggerTaken disarmed) rfl).trans (examineBoth_ledger _)).trans
    (followIdle_ledger _)

theorem cancelWork_ledger (j : Job) (s : State) : Ledger s (cancelWork j s) := by
  have stopped : Ledger s (stopJobCapture j s) := by
    unfold stopJobCapture
    split
    · exact .refl s
    · exact .frame (by simp [ledgerOf])
  unfold cancelWork
  split
  · exact .frame rfl
  · exact .frame rfl
  · exact stopped
  · exact stopped
  · exact .frame (by simp [ledgerOf])
  · exact (takeItem_ledger _).since (by simp [ledgerOf])

theorem cancelJob_ledger (j : Job) (s : State) : Ledger s (cancelJob j s) :=
  ((cancelWork_ledger j s).trans (endJob_ledger _ _ _)).examined _

/-- What a block does: it moves the link within its places, it resets the part, or it moves the ledger. -/
theorem Block.ledger {s t : State} (block : Block s t) :
    (∃ l : Link, l.hold.length ≤ max 4 s.link.hold.length ∧ l.faults.length ≤ max 4 s.link.faults.length ∧
      t = setLink l s) ∨
    (∃ tx detector low cause, t = resetBlocks (Link.afterReset tx detector low cause) s) ∨
    (∃ receiveLine triggerLine sample, t = Machine.powerOn receiveLine triggerLine sample s) ∨ Ledger s t := by
  cases block with
  | link l s hold faults => exact .inl ⟨l, hold, faults, rfl⟩
  | reset tx detector low cause s => exact .inr (.inl ⟨tx, detector, low, cause, rfl⟩)
  | powerOn receiveLine triggerLine sample s => exact .inr (.inr (.inl ⟨receiveLine, triggerLine, sample, rfl⟩))
  | trigger x s => exact .inr (.inr (.inr (.frame rfl)))
  | notices n s _ => exact .inr (.inr (.inr (.frame rfl)))
  | timebase x s _ => exact .inr (.inr (.inr (.frame rfl)))
  | gateEnd edges s => exact .inr (.inr (.inr (endGate_ledger edges s)))
  | unlockReport s => exact .inr (.inr (.inr (reportUnlock_ledger s)))
  | calSettlingEnd g s => exact .inr (.inr (.inr (endCalSettling_ledger g s)))
  | code g code s => exact .inr (.inr (.inr (deliverCode_ledger g code s)))
  | codeDensityEnd g s => exact .inr (.inr (.inr (endCodeDensity_ledger g s)))
  | floorGate g s => exact .inr (.inr (.inr (openFloorGate_ledger g s)))
  | floorEdge g code s => exact .inr (.inr (.inr (takeFloorEdge_ledger g code s)))
  | floorTimeout g s => exact .inr (.inr (.inr (expireFloorTimeout_ledger g s)))
  | floorComputation g s => exact .inr (.inr (.inr (endFloorComputation_ledger g s)))
  | settlingEnd c s => exact .inr (.inr (.inr (endSettling_ledger c s)))
  | edge c code s => exact .inr (.inr (.inr (takeComparatorEdge_ledger c code s)))
  | edgeTimeout c s => exact .inr (.inr (.inr (expireEdgeTimeout_ledger c s)))
  | engine e s _ => exact .inr (.inr (.inr (.frame rfl)))
  | enginePost s => exact .inr (.inr (.inr (enginePost_ledger s)))
  | triggerTaken s => exact .inr (.inr (.inr (takeTrigger_ledger s)))
  | channelConfig c config s _ => exact .inr (.inr (.inr (.frame rfl)))
  | invalidate c s _ => exact .inr (.inr (.inr (.frame rfl)))
  | calibrate c s _ => 
    have queued : Ledger s (setQueue (groupOfChannel c) (queueOf s (groupOfChannel c) ++ [.calibration c]) s) := .frame rfl
    exact .inr (.inr (.inr (queued.examined _)))
  | limitEntry index e s within notInUse => exact .inr (.inr (.inr (.limitEntry e within notInUse)))
  | limitExtent extent s least greatest beyond => exact .inr (.inr (.inr (.limitExtent least greatest beyond)))
  | lot lot s => exact .inr (.inr (.inr (.lot lot s)))
  | submit f draft s drafted passes =>
    exact .inr (.inr (.inr ((Ledger.accept drafted passes).examined (groupOfSite draft.site))))
  | cancel site j s live => exact .inr (.inr (.inr (cancelJob_ledger j s)))
  | resultRead site r s => exact .inr (.inr (.inr (.read site r s)))
  | resultClear site s => exact .inr (.inr (.inr (.clear site s)))

/-! ### What the moves keep -/

theorem acceptJob_pending (j : Job) (s : State) : (acceptJob j s).pending = s.pending := by
  simp only [acceptJob, raiseInUse]
  split <;> rfl

theorem acceptJob_link (j : Job) (s : State) : (acceptJob j s).link = s.link := by
  simp only [acceptJob, raiseInUse]
  split <;> rfl

theorem acceptJob_results (j : Job) (s : State) : (acceptJob j s).results = s.results := by
  simp only [acceptJob, raiseInUse]
  split <;> rfl

theorem Ledger.pending_link {s t : State} (moved : Ledger s t) : t.pending = s.pending ∧ t.link = s.link := by
  induction moved with
  | frame same => simp only [ledgerOf, Prod.mk.injEq] at same; exact ⟨same.2.2.2.2.2, same.2.2.2.2.1⟩
  | trans _ _ first second => exact ⟨second.1.trans first.1, second.2.trans first.2⟩
  | finish w live => simp
  | accept drafted passes => exact ⟨acceptJob_pending _ _, acceptJob_link _ _⟩
  | _ => exact ⟨rfl, rfl⟩

/-- No block touches the queue of commands (log 26). -/
theorem Block.pending {s t : State} (block : Block s t) : t.pending = s.pending := by
  obtain ⟨l, -, -, rfl⟩ | ⟨tx, detector, low, cause, rfl⟩ | ⟨receiveLine, triggerLine, sample, rfl⟩ | moved := block.ledger
  · rfl
  · rfl
  · rfl
  · exact moved.pending_link.1

/-- Settles O3: every command answers the state that its sequence of blocks reaches, and no block touches the queue. -/
theorem everyCommandCompletesAndKeepsTheQueue : Obligations.EveryCommandCompletesAndKeepsTheQueue := by
  unfold Obligations.EveryCommandCompletesAndKeepsTheQueue
  intro c s
  obtain ⟨t, answer, blocks⟩ := exec_blocks c s
  exact ⟨t, answer, blocks.keep (P := fun u => u.pending = s.pending) (fun _ _ block same => block.pending.trans same) rfl⟩

theorem Block.linkWithinPlaces {s t : State} (block : Block s t) (within : LinkWithinPlaces s) : LinkWithinPlaces t := by
  obtain ⟨hold, faults⟩ := within
  obtain ⟨l, longer, more, rfl⟩ | ⟨tx, detector, low, cause, rfl⟩ | ⟨receiveLine, triggerLine, sample, rfl⟩ | moved :=
    block.ledger
  · constructor
    · change l.hold.length ≤ 4
      omega
    · change l.faults.length ≤ 4
      omega
  · exact ⟨Nat.zero_le _, Nat.zero_le _⟩
  · exact ⟨Nat.zero_le _, Nat.zero_le _⟩
  · unfold LinkWithinPlaces
    rw [moved.pending_link.2]
    exact ⟨hold, faults⟩

/-! ### The completion list (R156) -/

theorem slotAt_post (r : ResultRecord) (s : State) (site : Site) :
    isNew (slotAt (post r s) site) = if r.site = site then true else isNew (slotAt s site) := by
  unfold post
  dsimp only
  have slotThere (x : Slot) : (s.results.slots.set r.site x)[site] = if r.site = site then x else slotAt s site := by
    simp [slotAt, Vector.getElem_set, Fin.ext_iff]
  split <;> simp only [slotAt, raise] <;> rw [slotThere] <;> split <;> rfl

theorem completion_post (r : ResultRecord) (s : State) :
    (post r s).results.completion = s.results.completion.filter (· != r.site) ++ [r.site] := by
  unfold post
  dsimp only
  split <;> rfl

theorem CompletionExact.post {s : State} (exact : CompletionExact s) (r : ResultRecord) :
    CompletionExact (post r s) := by
  obtain ⟨nodup, mem⟩ := exact
  unfold CompletionExact
  rw [completion_post]
  constructor
  · exact (nodup.filter _).append (by simp) (by simp)
  · intro site
    rw [slotAt_post, List.mem_append, List.mem_filter, mem site]
    by_cases same : r.site = site
    · simp [same]
    · simp [same, Ne.symm same]

/-- A slot that is no longer NEW leaves the list. -/
theorem CompletionExact.leave {s t : State} {site : Site} {slot : Slot} (exact : CompletionExact s) (old : isNew slot = false)
    (slots : t.results.slots = s.results.slots.set site slot)
    (list : t.results.completion = s.results.completion.filter (· != site)) : CompletionExact t := by
  obtain ⟨nodup, mem⟩ := exact
  unfold CompletionExact
  rw [list]
  refine ⟨nodup.filter _, fun other => ?_⟩
  have slotThere : slotAt t other = if site = other then slot else slotAt s other := by
    simp [slotAt, slots, Vector.getElem_set, Fin.ext_iff]
  rw [List.mem_filter, mem other, slotThere]
  by_cases same : site = other
  · simp [same, old]
  · simp [same, Ne.symm same]

theorem CompletionExact.congr {s t : State} (exact : CompletionExact s) (same : t.results = s.results) :
    CompletionExact t := by
  unfold CompletionExact slotAt at *
  rwa [same]

theorem Ledger.completionExact {s t : State} (moved : Ledger s t) : CompletionExact s → CompletionExact t := by
  induction moved with
  | frame same => simp only [ledgerOf, Prod.mk.injEq] at same; exact fun exact => exact.congr same.2.2.2.1
  | trans _ _ first second => exact fun exact => second (first exact)
  | @finish s site j w live =>
    exact fun exact => (exact.post (formRecord s j w)).congr (t := finishJob j w s) (by simp [finishJob])
  | accept drafted passes => exact fun exact => exact.congr (acceptJob_results _ _)
  | read site r s => exact fun exact => exact.leave (slot := .read r) rfl rfl rfl
  | clear site s => exact fun exact => exact.leave (slot := .empty) rfl rfl rfl
  | _ => exact fun exact => exact

theorem completionExact_of_reset {s : State} (reset : s.results = Results.afterReset) : CompletionExact s := by
  unfold CompletionExact slotAt
  rw [reset]
  simp [Results.afterReset, isNew]

theorem Block.completionExact {s t : State} (block : Block s t) (exact : CompletionExact s) : CompletionExact t := by
  obtain ⟨l, -, -, rfl⟩ | ⟨tx, detector, low, cause, rfl⟩ | ⟨receiveLine, triggerLine, sample, rfl⟩ | moved := block.ledger
  · exact exact
  · exact completionExact_of_reset rfl
  · exact completionExact_of_reset rfl
  · exact moved.completionExact exact

/-! ### The limit table (R134, R143) -/

theorem LimitsFit.lowerInUse {s : State} (fits : LimitsFit s) (j : Job) : LimitsFit (lowerInUse j s) := by
  obtain ⟨least, greatest, entries⟩ := fits
  unfold Machine.lowerInUse
  split
  · exact ⟨least, greatest, entries⟩
  · next index _ =>
    refine ⟨least, greatest, fun other => ⟨(entries other).1, fun used => (entries other).2 ?_⟩⟩
    simp only [inUseOf, Fin.getElem_fin, Vector.getElem_set] at used ⊢
    split at used
    · next same => simp only [same] at used; omega
    · exact used

theorem LimitsFit.congr {s t : State} (fits : LimitsFit s) (same : t.limits = s.limits) : LimitsFit t := by
  unfold LimitsFit inUseOf at *
  rwa [same]

/-- A named entry whose checks pass stands within the extent and is defined (R145). -/
theorem defined_of_limitFault_none {s : State} {index : Fin 64} {spectral : Bool} {bands spots fNom : Nat}
    (passes : limitFault s index spectral bands spots fNom = none) :
    index.val < s.limits.extent ∧ (s.limits.entries[index]).isSome = true := by
  unfold limitFault at passes
  split at passes
  · cases passes
  · next within =>
    split at passes
    · cases passes
    · next e defined => exact ⟨by omega, by simp [defined]⟩

theorem acceptJob_limits (j : Job) (s : State) : (acceptJob j s).limits = match j.limit with
    | none => s.limits
    | some index => { s.limits with inUse := s.limits.inUse.set index (s.limits.inUse[index] + 1) } := by
  cases named : j.limit <;> simp [acceptJob, raiseInUse, named]

/-- An acceptance raises the count of a defined entry alone. -/
theorem LimitsFit.acceptJob {s : State} {j : Job} (fits : LimitsFit s)
    (defined : ∀ index, j.limit = some index → (s.limits.entries[index]).isSome = true) : LimitsFit (acceptJob j s) := by
  obtain ⟨least, greatest, entries⟩ := fits
  unfold LimitsFit inUseOf
  rw [acceptJob_limits]
  split
  · exact ⟨least, greatest, entries⟩
  · next index named =>
    refine ⟨least, greatest, fun other => ⟨(entries other).1, fun used => ?_⟩⟩
    by_cases same : index = other
    · exact same ▸ defined index named
    · refine (entries other).2 ?_
      simpa [inUseOf, Vector.getElem_set, Fin.val_ne_of_ne same] using used

/-- A submission that passes names a defined entry, if it names one (R57). -/
theorem defined_of_submissionFault_none {s : State} {j : Job} (passes : submissionFault s j = none) (index : Fin 64)
    (named : j.limit = some index) : (s.limits.entries[index]).isSome = true := by
  unfold submissionFault at passes
  rw [named] at passes
  split at passes
  · cases passes
  · exact (defined_of_limitFault_none passes).2

theorem Ledger.limitsFit {s t : State} (moved : Ledger s t) : LimitsFit s → LimitsFit t := by
  induction moved with
  | frame same => simp only [ledgerOf, Prod.mk.injEq] at same; exact fun fits => fits.congr same.2.2.1
  | trans _ _ first second => exact fun fits => second (first fits)
  | change live _ _ _ => exact fun fits => fits
  | release s => exact fun fits => fits
  | @finish s site j w live =>
    exact fun fits => (LimitsFit.lowerInUse (fits.congr (t := post (formRecord s j w) s) (by simp)) j).congr rfl
  | accept drafted passes => exact fun fits => fits.acceptJob (defined_of_submissionFault_none passes)
  | @limitEntry index s e within notInUse =>
    intro ⟨least, greatest, entries⟩
    refine ⟨least, greatest, fun other => ?_⟩
    have entryThere : (setEntry index e s).limits.entries[other] = if index = other then e else s.limits.entries[other] := by
      simp [setEntry, Vector.getElem_set, Fin.ext_iff]
    change (s.limits.extent ≤ other.val → _) ∧ (0 < inUseOf s other → _)
    rw [entryThere]
    by_cases same : index = other
    · subst same
      exact ⟨fun beyond => by omega, fun used => by omega⟩
    · rw [if_neg same]
      exact entries other
  | limitExtent least greatest beyond =>
    exact fun ⟨_, _, entries⟩ => ⟨least, greatest, fun index => ⟨beyond index, (entries index).2⟩⟩
  | lot lot s => exact fun fits => fits
  | read site r s => exact fun fits => fits
  | clear site s => exact fun fits => fits

theorem limitsFit_of_reset {s : State} (reset : s.limits = LimitTable.afterReset) : LimitsFit s := by
  unfold LimitsFit inUseOf
  rw [reset]
  simp [LimitTable.afterReset]

theorem Block.limitsFit {s t : State} (block : Block s t) (fits : LimitsFit s) : LimitsFit t := by
  obtain ⟨l, -, -, rfl⟩ | ⟨tx, detector, low, cause, rfl⟩ | ⟨receiveLine, triggerLine, sample, rfl⟩ | moved := block.ledger
  · exact fits
  · exact limitsFit_of_reset rfl
  · exact limitsFit_of_reset rfl
  · exact moved.limitsFit fits

/-- Settles O59: each of the three invariants is kept by every block, and a step is a sequence of blocks. -/
theorem stepKeepsTheCompletionListAndTheLinkPlaces : Obligations.StepKeepsTheCompletionListAndTheLinkPlaces := by
  unfold Obligations.StepKeepsTheCompletionListAndTheLinkPlaces
  intro s t next
  exact ⟨step_keeps (fun _ _ _ exact => exact) (fun _ _ block => block.completionExact) next,
    step_keeps (fun _ _ _ within => within) (fun _ _ block => block.linkWithinPlaces) next,
    step_keeps (fun _ _ _ fits => fits) (fun _ _ block => block.limitsFit) next⟩

end Sys2Proof.Machine
end

section
/-! SUPPORT. The channels of the part with what works on them, as lines: each channel's state, whether it holds a context, the
channel of each section, the records and the waiting calibrations. What a block can do to the lines is said as moves, each
of which keeps them fit and, outside LOCKED, at rest (R18, R31, R33, R38, R52, R66). -/

namespace Sys2Proof.Machine

/-! ### Lines -/

structure Lines where
  state : ChannelId → ChannelState
  /-- Whether the channel holds a capture context. -/
  engaged : ChannelId → Bool
  /-- The channel a group's section is BUSY with. -/
  lent : Group → Option ChannelId
  record : ChannelId → CalRecord
  /-- Whether a calibration entry for the channel waits in the queue of the group. -/
  queued : Group → ChannelId → Prop
  locked : Prop

def linesOf (s : State) : Lines :=
  { state := fun c => (channelOfState s c).state
    engaged := fun c => (channelOfState s c).context.isSome
    lent := fun g => (sectionContext s g).map (·.channel)
    record := recordOf s
    queued := fun g c => Entry.calibration c ∈ queueOf s g
    locked := s.timebase.refState = .locked }

structure Lines.Fits (v : Lines) : Prop where
  engaged : ∀ c, v.engaged c = true ↔ v.state c = .settling ∨ v.state c = .capturing
  lent : ∀ c, v.state c = .calibrating ↔ v.lent (groupOfChannel c) = some c
  running : ∀ c, v.state c = .calibrating ↔ v.record c = .running
  grouped : ∀ g c, v.lent g = some c → groupOfChannel c = g
  queued : ∀ g c, v.queued g c → groupOfChannel c = g

/-- Outside LOCKED nothing works and no record is VALID. -/
def Lines.Rests (v : Lines) : Prop :=
  ¬v.locked → ∀ c, v.state c = .idle ∧ v.lent (groupOfChannel c) = none ∧ isValid (v.record c) = false

theorem sectionContext_map_eq_some {s : State} {g : Group} {c : ChannelId} :
    (sectionContext s g).map (·.channel) = some c ↔ ∃ ctx, sectionOf s g = .busy ctx ∧ ctx.channel = c := by
  unfold sectionContext
  cases sectionOf s g <;> simp

theorem channelsFit_iff (s : State) : ChannelsFit s ↔ (linesOf s).Fits := by
  unfold ChannelsFit ChannelFits
  constructor
  · rintro ⟨each, grouped, queued⟩
    exact
      { engaged := fun c => (each c).1
        lent := fun c => (each c).2.1.trans sectionContext_map_eq_some.symm
        running := fun c => (each c).2.2
        grouped := fun g c lent => by
          obtain ⟨ctx, busy, rfl⟩ := sectionContext_map_eq_some.mp lent
          exact grouped g ctx busy
        queued }
  · intro fits
    exact ⟨fun c => ⟨fits.engaged c, (fits.lent c).trans sectionContext_map_eq_some, fits.running c⟩,
      fun g ctx busy => fits.grouped g ctx.channel (sectionContext_map_eq_some.mpr ⟨ctx, busy, rfl⟩), fits.queued⟩

theorem lostReferenceStopsWork_iff (s : State) : LostReferenceStopsWork s ↔ (linesOf s).Rests := by
  have free (g : Group) : sectionOf s g = .free ↔ (linesOf s).lent g = none := by
    simp only [linesOf, Option.map_eq_none_iff]
    unfold sectionContext
    cases sectionOf s g <;> simp
  unfold LostReferenceStopsWork Lines.Rests
  simp only [free]
  rfl

/-! ### Moves -/

/-- Fit lines stay fit and, outside LOCKED, at rest. -/
def Lines.Keeps (v w : Lines) : Prop :=
  v.Fits → w.Fits ∧ (v.Rests → w.Rests)

/-- A channel that is IDLE in LOCKED takes a dispatch (R20). -/
theorem Lines.keeps_take {v : Lines} {c : ChannelId} (idle : v.state c = .idle) (locked : v.locked) :
    v.Keeps { v with
      state := fun d => if d = c then .settling else v.state d, engaged := fun d => if d = c then true else v.engaged d } := by
  intro fits
  refine ⟨?_, fun _ outside => absurd locked outside⟩
  constructor
  · have := fits.engaged; grind
  · have := fits.lent; grind
  · have := fits.running; grind
  · exact fits.grouped
  · exact fits.queued

/-- A channel with a context opens its gate (R22). -/
theorem Lines.keeps_open {v : Lines} {c : ChannelId} (engaged : v.engaged c = true) :
    v.Keeps { v with
      state := fun d => if d = c then .capturing else v.state d, engaged := fun d => if d = c then true else v.engaged d } := by
  intro fits
  have working := (fits.engaged c).mp engaged
  constructor
  · constructor
    · have := fits.engaged; grind
    · have := fits.lent; grind
    · have := fits.running; grind
    · exact fits.grouped
    · exact fits.queued
  · intro rests outside
    have := (rests outside c).1
    grind

/-- A channel with a context gives up its capture (R29, R31, R32). -/
theorem Lines.keeps_release {v : Lines} {c : ChannelId} (engaged : v.engaged c = true) :
    v.Keeps { v with
      state := fun d => if d = c then .idle else v.state d, engaged := fun d => if d = c then false else v.engaged d } := by
  intro fits
  have working := (fits.engaged c).mp engaged
  constructor
  · constructor
    · have := fits.engaged; grind
    · have := fits.lent; grind
    · have := fits.running; grind
    · exact fits.grouped
    · exact fits.queued
  · intro rests outside
    have := (rests outside c).1
    grind

/-- An IDLE channel is lent to its group's FREE section in LOCKED (R33, R40). -/
theorem Lines.keeps_lend {v : Lines} {c : ChannelId} (idle : v.state c = .idle) (locked : v.locked)
    (free : v.lent (groupOfChannel c) = none) :
    v.Keeps { v with
      state := fun d => if d = c then .calibrating else v.state d
      lent := fun g => if g = groupOfChannel c then some c else v.lent g
      record := fun d => if d = c then .running else v.record d } := by
  intro fits
  refine ⟨?_, fun _ outside => absurd locked outside⟩
  constructor
  · have := fits.engaged; grind
  · have := fits.lent; grind
  · have := fits.running; grind
  · have := fits.grouped; grind
  · exact fits.queued

/-- A section gives its channel back, with its record no longer RUNNING (R48, R49, R52). -/
theorem Lines.keeps_return {v : Lines} {c : ChannelId} {r : CalRecord} (lent : v.lent (groupOfChannel c) = some c)
    (ended : r ≠ .running) :
    v.Keeps { v with
      state := fun d => if d = c then .idle else v.state d
      lent := fun g => if g = groupOfChannel c then none else v.lent g
      record := fun d => if d = c then r else v.record d } := by
  intro fits
  have calibrating := (fits.lent c).mpr lent
  constructor
  · constructor
    · have := fits.engaged; grind
    · have := fits.lent; grind
    · have := fits.running; have := fits.lent; grind
    · have := fits.grouped; grind
    · exact fits.queued
  · intro rests outside
    have := (rests outside c).2.1
    simp [lent] at this

/-- A record that is not RUNNING is invalidated (R51, R52). -/
theorem Lines.keeps_invalidate {v : Lines} {c : ChannelId} {r : CalRecord} (still : v.record c ≠ .running)
    (ended : r ≠ .running) (invalid : isValid r = false) :
    v.Keeps { v with record := fun d => if d = c then r else v.record d } := by
  intro fits
  constructor
  · constructor
    · exact fits.engaged
    · exact fits.lent
    · have := fits.running; grind
    · exact fits.grouped
    · exact fits.queued
  · intro rests outside d
    obtain ⟨idle, free, notValid⟩ := rests outside d
    refine ⟨idle, free, ?_⟩
    grind

/-- The calibrations that wait are those that waited, and others in the queue of their channel's group. -/
theorem Lines.keeps_queued {v : Lines} {queued : Group → ChannelId → Prop}
    (home : ∀ g c, queued g c → v.queued g c ∨ groupOfChannel c = g) : v.Keeps { v with queued } := by
  intro fits
  refine ⟨⟨fits.engaged, fits.lent, fits.running, fits.grouped, fun g c waits => ?_⟩, fun rests => rests⟩
  exact (home g c waits).elim (fits.queued g c) id

/-- Nothing works. -/
theorem Lines.fits_of_rest {v : Lines} (idle : ∀ c, v.state c = .idle) (disengaged : ∀ c, v.engaged c = false)
    (free : ∀ g, v.lent g = none) (still : ∀ c, v.record c ≠ .running) (empty : ∀ g c, ¬v.queued g c) : v.Fits where
  engaged c := by simp [idle, disengaged]
  lent c := by simp [idle, free]
  running c := by simp [idle, still]
  grouped g c lent := by simp [free] at lent
  queued g c waits := absurd waits (empty g c)

/-! ### What lines see of an update -/

/-- A function set at one point to what it is there. -/
theorem ite_eq_self {α β : Type} [DecidableEq α] (f : α → β) (a : α) {b : β} (same : b = f a) :
    (fun x => if x = a then b else f x) = f := by
  funext x
  split
  · next there => rw [there, same]
  · rfl

theorem linesOf_setChannel (c : ChannelId) (x : Channel) (s : State) : linesOf (setChannel c x s) =
    { linesOf s with
      state := fun d => if d = c then x.state else (linesOf s).state d
      engaged := fun d => if d = c then x.context.isSome else (linesOf s).engaged d } := by
  simp only [linesOf, channelOfState_setChannel, eq_comm (a := c)]
  congr 1 <;> funext d <;> split <;> rfl

theorem linesOf_setRecord (c : ChannelId) (r : CalRecord) (s : State) : linesOf (setRecord c r s) =
    { linesOf s with record := fun d => if d = c then r else (linesOf s).record d } := by
  have there : recordOf (setRecord c r s) = fun d => if d = c then r else recordOf s d := by
    funext d
    rw [recordOf_setRecord]
    simp only [eq_comm]
  unfold linesOf
  rw [there]
  rfl

theorem linesOf_setSection (g : Group) (x : CalSection) (s : State) : linesOf (setSection g x s) =
    { linesOf s with lent := fun k => if k = g then (match x with
      | .busy ctx => some ctx.channel
      | .free => none) else (linesOf s).lent k } := by
  have there : (fun k => (sectionContext (setSection g x s) k).map (·.channel)) = fun k => if k = g then (match x with
      | .busy ctx => some ctx.channel
      | .free => none) else (sectionContext s k).map (·.channel) := by
    funext k
    unfold sectionContext
    rw [sectionOf_setSection]
    by_cases same : g = k
    · rw [if_pos same, if_pos same.symm]
      cases x <;> rfl
    · rw [if_neg same, if_neg (Ne.symm same)]
  exact congrArg (fun l => { linesOf s with lent := l }) there

theorem linesOf_setQueue (g : Group) (q : List Entry) (s : State) : linesOf (setQueue g q s) =
    { linesOf s with queued := fun k c => if k = g then Entry.calibration c ∈ q else (linesOf s).queued k c } := by
  have there : (fun k c => Entry.calibration c ∈ queueOf (setQueue g q s) k) =
      fun k c => if k = g then Entry.calibration c ∈ q else Entry.calibration c ∈ queueOf s k := by
    funext k c
    rw [queueOf_setQueue]
    by_cases same : g = k
    · rw [if_pos same, if_pos same.symm]
    · rw [if_neg same, if_neg (Ne.symm same)]
  exact congrArg (fun q => { linesOf s with queued := q }) there

/-- The fields lines are made of. -/
theorem linesOf_congr {s t : State} (channels : t.channels = s.channels) (sections : t.sections = s.sections)
    (records : t.records = s.records) (queues : t.queues = s.queues) (timebase : t.timebase.refState = s.timebase.refState) :
    linesOf t = linesOf s := by
  have recordOf_eq : recordOf t = recordOf s := by
    funext c
    simp only [recordOf, records]
  simp only [linesOf, channelOfState, queueOf, sectionContext, sectionOf, channels, sections, queues, timebase, recordOf_eq]

/-! ### What blocks keep -/

/-- An operation keeps fit lines fit and, outside LOCKED, at rest. -/
def Kept (s t : State) : Prop :=
  (linesOf s).Keeps (linesOf t)

theorem Kept.refl (s : State) : Kept s s := fun fits => ⟨fits, id⟩

theorem Kept.trans {s t u : State} (first : Kept s t) (second : Kept t u) : Kept s u := by
  intro fits
  obtain ⟨fits', rest⟩ := first fits
  obtain ⟨fits'', rest'⟩ := second fits'
  exact ⟨fits'', rest' ∘ rest⟩

theorem Kept.of_lines {s t : State} (same : linesOf t = linesOf s) : Kept s t := by
  unfold Kept
  rw [same]
  exact fun fits => ⟨fits, id⟩

/-- What the operation needs of fit lines. -/
theorem Kept.of_fits {s t : State} (kept : (linesOf s).Fits → Kept s t) : Kept s t :=
  fun fits => kept fits fits

theorem Kept.since {s t u : State} (kept : Kept t u) (same : linesOf t = linesOf s) : Kept s u :=
  (Kept.of_lines same).trans kept

theorem Kept.until {s t u : State} (kept : Kept s t) (same : linesOf u = linesOf t) : Kept s u :=
  kept.trans (.of_lines same)

theorem Kept.foldl {α : Type} {f : State → α → State} (each : ∀ s x, Kept s (f s x)) (xs : List α) (s : State) :
    Kept s (xs.foldl f s) := by
  induction xs generalizing s with
  | nil => exact .refl s
  | cons x xs ih => exact (each s x).trans (ih (f s x))

@[simp] theorem linesOf_followIdle (s : State) : linesOf (followIdle s) = linesOf s :=
  linesOf_congr (by simp) (by simp) (by simp) (by simp) (by simp)

@[simp] theorem linesOf_passTicks (ticks : Nat) (s : State) : linesOf (passTicks ticks s) = linesOf s :=
  linesOf_congr (by simp) (by simp) (by simp) (by simp) (by unfold passTicks; split <;> rfl)

@[simp] theorem linesOf_endJob (id : Nat) (status : Ending) (s : State) : linesOf (endJob id status s) = linesOf s :=
  linesOf_congr (by simp) (by simp) (by simp) (by simp) (by simp)

@[simp] theorem linesOf_setJobState (id : Nat) (state : JobState) (s : State) :
    linesOf (setJobState id state s) = linesOf s :=
  linesOf_congr (by simp) (by simp) (by simp) (by simp) (by simp)

@[simp] theorem linesOf_takeItem (s : State) : linesOf (takeItem s) = linesOf s :=
  linesOf_congr (by simp) (by simp) (by simp) (by simp) (by simp)

@[simp] theorem linesOf_joinAnalysis (item : Item) (s : State) : linesOf (joinAnalysis item s) = linesOf s :=
  linesOf_congr (by simp) (by simp) (by simp) (by simp) (by simp)

@[simp] theorem linesOf_finishJob (j : Job) (w : Working) (s : State) : linesOf (finishJob j w s) = linesOf s :=
  linesOf_congr (by simp) (by simp) (by simp) (by simp) (by simp)

/-- A channel replaced with neither its state nor its holding a context changed. -/
theorem linesOf_setChannel_same {c : ChannelId} {x : Channel} {s : State} (state : x.state = (channelOfState s c).state)
    (context : x.context.isSome = (channelOfState s c).context.isSome) : linesOf (setChannel c x s) = linesOf s := by
  rw [linesOf_setChannel, ite_eq_self (linesOf s).state c state, ite_eq_self (linesOf s).engaged c context]

/-- A section that stays BUSY with its channel. -/
theorem linesOf_setSection_same {g : Group} {ctx ctx' : SectionContext} {s : State} (busy : sectionContext s g = some ctx)
    (channel : ctx'.channel = ctx.channel) : linesOf (setSection g (.busy ctx') s) = linesOf s := by
  rw [linesOf_setSection, ite_eq_self (linesOf s).lent g]
  simp [linesOf, busy, channel]

@[simp] theorem linesOf_freeBank (c : ChannelId) (b : Fin 2) (s : State) : linesOf (freeBank c b s) = linesOf s :=
  linesOf_setChannel_same (withBank_state _ _ _) (by rw [withBank_context])

@[simp] theorem linesOf_freeItemBanks (item : Item) (s : State) : linesOf (freeItemBanks item s) = linesOf s := by
  unfold freeItemBanks
  dsimp only
  split <;> simp

theorem linesOf_toDueTick {c : ChannelId} {s t : State} (due : toDueTick c s = some t) : linesOf t = linesOf s := by
  unfold toDueTick at due
  split at due
  · cases due
  · split at due
    · cases due
      simp
    · cases due

/-! ### The dispatchers -/

theorem qualifies_idle_locked {s : State} {c : ChannelId} (fit : qualifies s c = true) :
    (linesOf s).state c = .idle ∧ (linesOf s).locked := by
  simp only [qualifies, counterRuns, Bool.and_eq_true, decide_eq_true_eq] at fit
  exact ⟨fit.1.1.1, fit.2⟩

/-- The channels chosen for a job qualify, and none is chosen twice. -/
theorem channelsFor_spec {s : State} {g : Group} {j : Job} {cs : List ChannelId} (chosen : channelsFor s g j = some cs) :
    cs.Nodup ∧ ∀ c ∈ cs, qualifies s c = true := by
  unfold channelsFor at chosen
  split at chosen
  · cases chosen
  · split at chosen
    · split at chosen
      · next both =>
        cases chosen
        simp only [Bool.and_eq_true] at both
        exact ⟨by simpa using low_ne_high g, by simpa using both⟩
      · cases chosen
    · split at chosen
      · split at chosen
        · next fit => cases chosen; exact ⟨by simp, by simpa using fit⟩
        · cases chosen
      · obtain ⟨c, any, rfl⟩ := Option.map_eq_some_iff.mp chosen
        exact ⟨by simp, by simpa using (anyChannel_spec any).1⟩

theorem linesOf_takeDispatch (j : Job) (s : State) (c : ChannelId) : linesOf (takeDispatch j s c) =
    { linesOf s with
      state := fun d => if d = c then .settling else (linesOf s).state d
      engaged := fun d => if d = c then true else (linesOf s).engaged d } :=
  linesOf_setChannel _ _ s

theorem foldl_takeDispatch_kept {j : Job} {cs : List ChannelId} {s : State} (nodup : cs.Nodup)
    (idle : ∀ c ∈ cs, (linesOf s).state c = .idle) (locked : (linesOf s).locked) : Kept s (cs.foldl (takeDispatch j) s) := by
  induction cs generalizing s with
  | nil => exact .refl s
  | cons c cs ih =>
    have lines := linesOf_takeDispatch j s c
    have first : Kept s (takeDispatch j s c) := by
      unfold Kept
      rw [lines]
      exact Lines.keeps_take (idle c (List.mem_cons_self ..)) locked
    refine first.trans (ih nodup.of_cons (fun d mem => ?_) (by rw [lines]; exact locked))
    have other : d ≠ c := fun same => (List.nodup_cons.mp nodup).1 (same ▸ mem)
    rw [lines]
    simpa [other] using idle d (List.mem_cons_of_mem c mem)

/-- An entry that leaves the head of a queue. -/
theorem setQueue_rest_kept {g : Group} {e : Entry} {rest : List Entry} {s : State} (queue : queueOf s g = e :: rest) :
    Kept s (setQueue g rest s) := by
  unfold Kept
  rw [linesOf_setQueue]
  refine Lines.keeps_queued fun k c waits => ?_
  split at waits
  · next same => exact .inl (by subst same; simp [linesOf, queue, waits])
  · exact .inl waits

theorem dispatchJob_kept {g : Group} {j : Job} {cs : List ChannelId} {e : Entry} {rest : List Entry} {s : State}
    (queue : queueOf s g = e :: rest) (chosen : channelsFor s g j = some cs) : Kept s (dispatchJob g j cs rest s) := by
  obtain ⟨nodup, fit⟩ := channelsFor_spec chosen
  let taken := setJob j.site (some { j with channels := cs, state := .settling }) (setQueue g rest s)
  have queued : Kept s taken := setQueue_rest_kept queue
  have dispatched : Kept s (cs.foldl (takeDispatch j) taken) := by
    refine Kept.of_fits fun _ => ?_
    rcases cs with _ | ⟨c, cs⟩
    · exact queued
    · exact queued.trans (foldl_takeDispatch_kept nodup (fun d mem => (qualifies_idle_locked (fit d mem)).1)
        (qualifies_idle_locked (fit c (List.mem_cons_self ..))).2)
  unfold dispatchJob
  dsimp only
  split
  · exact dispatched.until rfl
  · exact dispatched

theorem dispatchCalibration_kept {g : Group} {c : ChannelId} {rest : List Entry} {s : State}
    (queue : queueOf s g = .calibration c :: rest) (runs : calibrationCanRun s g c = true) :
    Kept s (dispatchCalibration g c rest s) := by
  refine Kept.of_fits fun fits => ?_
  have home : groupOfChannel c = g := fits.queued g c (by simp [linesOf, queue])
  simp only [calibrationCanRun, counterRuns, Bool.and_eq_true, decide_eq_true_eq] at runs
  obtain ⟨⟨idle, locked⟩, free⟩ := runs
  refine (setQueue_rest_kept queue).trans ?_
  have lines : linesOf (dispatchCalibration g c rest s) =
      { linesOf (setQueue g rest s) with
        state := fun d => if d = c then .calibrating else (linesOf s).state d
        lent := fun k => if k = groupOfChannel c then some c else (linesOf s).lent k
        record := fun d => if d = c then .running else (linesOf s).record d } := by
    have disengaged : (channelOfState s c).context.isSome = (linesOf s).engaged c := rfl
    simp only [dispatchCalibration, linesOf_setChannel, linesOf_setRecord, linesOf_setSection, linesOf_setQueue, home,
      newSectionContext, channelOfState_setRecord, channelOfState_setSection, channelOfState_setQueue]
    rw [ite_eq_self (linesOf s).engaged c disengaged]
  unfold Kept
  rw [lines]
  refine Lines.keeps_lend (v := linesOf (setQueue g rest s)) idle locked ?_
  have free' : sectionOf s (groupOfChannel c) = .free := home ▸ free
  simp [linesOf, sectionContext, free']

theorem examine_kept (g : Group) (s : State) : Kept s (examine g s) := by
  refine examine_preserves (P := Kept s) (fun u t kept dispatched => kept.trans ?_) (.refl s)
  obtain ⟨c, rest, queue, runs, rfl⟩ | ⟨id, site, rest, j, cs, queue, -, -, chosen, rfl⟩ := examineHead_cases dispatched
  · exact dispatchCalibration_kept queue runs
  · exact dispatchJob_kept queue chosen

theorem examineBoth_kept (s : State) : Kept s (examineBoth s) :=
  (examine_kept .a s).trans (examine_kept .b _)

theorem Kept.examined {s t : State} (kept : Kept s t) (g : Group) : Kept s (followIdle (examine g t)) :=
  (kept.trans (examine_kept g t)).until (linesOf_followIdle _)

/-! ### Captures -/

theorem releaseChannel_kept (c : ChannelId) (s : State) : Kept s (releaseChannel c s) := by
  unfold releaseChannel
  dsimp only
  split
  · exact .refl s
  · next ctx held =>
    unfold Kept
    rw [linesOf_setChannel]
    exact Lines.keeps_release (by simp [linesOf, held])

theorem stopCapture_kept (c : ChannelId) (mode : Mode) (s : State) : Kept s (stopCapture c mode s) := by
  unfold stopCapture
  split
  · exact releaseChannel_kept c s
  · exact ((releaseChannel_kept _ s).trans (releaseChannel_kept _ _)).until rfl

theorem failCapture_kept (c : ChannelId) (ctx : CaptureContext) (status : Ending) (s : State) :
    Kept s (failCapture c ctx status s) :=
  ((stopCapture_kept c ctx.mode s).until (linesOf_endJob ctx.job status _)).examined _

/-- A channel with a context that hands its bank over. -/
theorem fillBank_kept {c : ChannelId} {ctx : CaptureContext} {s : State}
    (held : (channelOfState s c).context.isSome = true) : Kept s (fillBank c ctx s) := by
  unfold Kept fillBank
  rw [linesOf_setChannel]
  exact Lines.keeps_release held

theorem completeSingle_kept {c : ChannelId} {ctx : CaptureContext} {s : State}
    (held : (channelOfState s c).context.isSome = true) : Kept s (completeSingle c ctx s) :=
  ((fillBank_kept held).until (linesOf_joinAnalysis _ _)).examined _

theorem completePair_kept {g : Group} {low high : CaptureContext} {s : State}
    (lowHeld : (channelOfState s (lowChannel g)).context.isSome = true)
    (highHeld : (channelOfState s (highChannel g)).context.isSome = true) : Kept s (completePair g low high s) := by
  have filled : Kept s (fillBank (highChannel g) high (fillBank (lowChannel g) low s)) := by
    refine (fillBank_kept lowHeld).trans (fillBank_kept ?_)
    unfold fillBank
    rwa [channelOfState_setChannel_other _ _ _ _ (low_ne_high g)]
  exact ((filled.until (u := setPair g .idle _) rfl).until (linesOf_joinAnalysis _ _)).examined g

theorem reportFull_kept (c : ChannelId) (s : State) : Kept s (reportFull c s) := by
  unfold reportFull
  dsimp only
  split
  · split
    · split
      · next low high => exact completePair_kept (by simp [low]) (by simp [high])
      · exact .refl s
    · exact .of_lines rfl
  · exact .refl s

theorem linesOf_storeTimestamp {c : ChannelId} {ctx : CaptureContext} {t : Timestamp} {s : State}
    (held : (channelOfState s c).context.isSome = true) : linesOf (storeTimestamp c ctx t s) = linesOf s :=
  linesOf_setChannel_same (withBank_state _ _ _) (by simp [held])

theorem takeTimestamp_kept {c : ChannelId} {ctx : CaptureContext} {t : Timestamp} {s : State}
    (held : (channelOfState s c).context.isSome = true) : Kept s (takeTimestamp c ctx t s) := by
  unfold takeTimestamp
  split
  · have stored : Kept s (storeTimestamp c ctx t s) := .of_lines (linesOf_storeTimestamp held)
    dsimp only
    split
    · refine stored.trans ?_
      unfold endRecord
      split
      · exact completeSingle_kept (by simp [storeTimestamp])
      · exact reportFull_kept c _
    · exact stored
  · exact failCapture_kept c ctx _ s

theorem openGate_kept (c : ChannelId) (s : State) : Kept s (openGate c s) := by
  unfold openGate
  dsimp only
  split
  · exact .refl s
  · next ctx held =>
    unfold Kept
    rw [linesOf_setChannel]
    exact Lines.keeps_open (by simp [linesOf, held])

theorem endSettling_kept (c : ChannelId) (s : State) : Kept s (endSettling c s) := by
  unfold endSettling
  split
  · split
    · next t due =>
      refine Kept.since ?_ (linesOf_toDueTick due)
      unfold takeSettlingEnd
      split
      · exact .refl t
      · split
        · exact (openGate_kept c t).until (linesOf_setJobState _ _ _)
        · unfold reportSettled
          dsimp only
          split
          · split
            · exact (((openGate_kept _ t).trans (openGate_kept _ _)).until
                (u := setPair (groupOfChannel c) _ _) rfl).until (linesOf_setJobState _ _ _)
            · exact .of_lines rfl
          · exact .refl t
    · exact .refl s
  · exact .refl s

theorem expireEdgeTimeout_kept (c : ChannelId) (s : State) : Kept s (expireEdgeTimeout c s) := by
  unfold expireEdgeTimeout
  split
  · exact .refl s
  · split
    · next due => exact (failCapture_kept c _ _ _).since (linesOf_toDueTick due)
    · exact .refl s

/-! ### Calibration -/

theorem endCalibration_kept {g : Group} {ctx : SectionContext} {record : CalRecord} {s : State}
    (busy : sectionContext s g = some ctx) (ended : record ≠ .running) :
    Kept s (endCalibration g ctx.channel record s) := by
  refine Kept.of_fits fun fits => ?_
  have lent : (linesOf s).lent g = some ctx.channel := by simp [linesOf, busy]
  have home : groupOfChannel ctx.channel = g := fits.grouped g _ lent
  let freed := setSection g .free (setRecord ctx.channel record s)
  let given := setChannel ctx.channel { channelOfState freed ctx.channel with state := .idle } freed
  have lines : linesOf given =
      { linesOf s with
        state := fun d => if d = ctx.channel then .idle else (linesOf s).state d
        lent := fun k => if k = groupOfChannel ctx.channel then none else (linesOf s).lent k
        record := fun d => if d = ctx.channel then record else (linesOf s).record d } := by
    have engaged : (channelOfState s ctx.channel).context.isSome = (linesOf s).engaged ctx.channel := rfl
    simp only [given, freed, linesOf_setChannel, linesOf_setRecord, linesOf_setSection, home, channelOfState_setRecord,
      channelOfState_setSection]
    rw [ite_eq_self (linesOf s).engaged ctx.channel engaged]
  have returned : Kept s given := by
    unfold Kept
    rw [lines]
    exact Lines.keeps_return (by rw [home]; exact lent) ended
  exact ((returned.trans (examine_kept g given)).until (u := raise .calDone _) rfl).until (linesOf_followIdle _)

theorem endCalSettling_kept (g : Group) (s : State) : Kept s (endCalSettling g s) := by
  unfold endCalSettling
  split
  · exact .refl s
  · next ctx busy =>
    split
    · split
      · next t due =>
        have busy' : sectionContext t g = some ctx := by
          unfold sectionContext
          rw [toDueTick_sectionOf due]
          exact busy
        refine Kept.since ?_ (linesOf_toDueTick due)
        exact .of_lines (linesOf_setSection_same busy' rfl)
      · exact .refl s
    · exact .refl s

theorem deliverCode_kept (g : Group) (code : Byte) (s : State) : Kept s (deliverCode g code s) := by
  unfold deliverCode
  split
  · exact .refl s
  · next busy =>
    split
    · exact .of_lines (linesOf_setSection_same busy rfl)
    · exact .refl s

/-- The floor pass starts on a channel that is CALIBRATING. -/
theorem linesOf_startFloorPass {g : Group} {ctx : SectionContext} {s : State} (busy : sectionContext s g = some ctx)
    (calibrating : (channelOfState s ctx.channel).state = .calibrating) :
    linesOf (startFloorPass g ctx s) = linesOf s :=
  (linesOf_setChannel_same (by exact calibrating.symm) (by rfl)).trans (linesOf_setSection_same busy (by rfl))

/-- The channel of a BUSY section is CALIBRATING. -/
theorem Lines.Fits.calibrating {s : State} (fits : (linesOf s).Fits) {g : Group} {ctx : SectionContext}
    (busy : sectionContext s g = some ctx) : (channelOfState s ctx.channel).state = .calibrating := by
  have lent : (linesOf s).lent g = some ctx.channel := by simp [linesOf, busy]
  refine (fits.lent ctx.channel).mpr ?_
  rw [fits.grouped g _ lent]
  exact lent

theorem endCodeDensity_kept (g : Group) (s : State) : Kept s (endCodeDensity g s) := by
  refine Kept.of_fits fun fits => ?_
  unfold endCodeDensity
  split
  · exact .refl s
  · next ctx busy =>
    split
    · split
      · exact endCalibration_kept busy (by simp)
      · exact .of_lines (linesOf_startFloorPass busy (fits.calibrating busy))
    · exact .refl s

theorem openFloorGate_kept (g : Group) (s : State) : Kept s (openFloorGate g s) := by
  unfold openFloorGate
  split
  · exact .refl s
  · next ctx busy =>
    split
    · split
      · next t due =>
        have busy' : sectionContext t g = some ctx := by
          unfold sectionContext
          rw [toDueTick_sectionOf due]
          exact busy
        refine Kept.since ?_ (linesOf_toDueTick due)
        exact .of_lines ((linesOf_setChannel_same (by rfl) (by rfl)).trans (linesOf_setSection_same busy' (by rfl)))
      · exact .refl s
    · exact .refl s

theorem takeFloorEdge_kept (g : Group) (code : Byte) (s : State) : Kept s (takeFloorEdge g code s) := by
  unfold takeFloorEdge
  split
  · exact .refl s
  · next ctx busy =>
    split
    · dsimp only
      split
      · exact .of_lines (linesOf_setSection_same busy rfl)
      · exact endCalibration_kept busy (by simp [floorFailure])
    · exact .refl s

theorem expireFloorTimeout_kept (g : Group) (s : State) : Kept s (expireFloorTimeout g s) := by
  unfold expireFloorTimeout
  split
  · exact .refl s
  · next ctx busy =>
    split
    · split
      · next t due =>
        have busy' : sectionContext t g = some ctx := by
          unfold sectionContext
          rw [toDueTick_sectionOf due]
          exact busy
        exact (endCalibration_kept busy' (by simp [floorFailure])).since (linesOf_toDueTick due)
      · exact .refl s
    · exact .refl s

theorem endFloorComputation_kept (g : Group) (s : State) : Kept s (endFloorComputation g s) := by
  unfold endFloorComputation
  split
  · exact .refl s
  · next ctx busy =>
    split
    · refine endCalibration_kept busy ?_
      unfold floorOutcome floorFailure
      dsimp only
      split <;> simp
    · exact .refl s

theorem takeComparatorEdge_kept (c : ChannelId) (code : Byte) (s : State) : Kept s (takeComparatorEdge c code s) := by
  unfold takeComparatorEdge
  split
  · next ctx opened =>
    obtain ⟨held, -, -⟩ := openContext_some opened
    split
    · refine Kept.since (takeTimestamp_kept (s := setChannel c { channelOfState s c with count := 0 } s) ?_)
        (linesOf_setChannel_same rfl rfl)
      simp [held]
    · exact .of_lines (linesOf_setChannel_same rfl rfl)
  · split
    · exact (deliverCode_kept _ code s).trans (takeFloorEdge_kept _ code _)
    · exact .refl s

/-! ### The reference -/

theorem loseCapture_kept (s : State) (c : ChannelId) : Kept s (loseCapture s c) := by
  unfold loseCapture
  split
  · exact .refl s
  · exact (stopCapture_kept c _ s).until (linesOf_endJob _ _ _)

theorem loseCalibration_kept (s : State) (c : ChannelId) : Kept s (loseCalibration s c) := by
  refine Kept.of_fits fun fits => ?_
  unfold loseCalibration
  split
  · next valid =>
    unfold Kept
    rw [linesOf_setRecord]
    exact Lines.keeps_invalidate (by simp [linesOf, valid]) (by simp) rfl
  · next running =>
    have lent := (fits.lent c).mp ((fits.running c).mpr running)
    obtain ⟨ctx, busy, rfl⟩ := sectionContext_map_eq_some.mp lent
    dsimp only
    rw [busy]
    dsimp only
    rw [if_pos rfl]
    have busy' : sectionContext s (groupOfChannel ctx.channel) = some ctx := by simp [sectionContext, busy]
    let freed := setSection (groupOfChannel ctx.channel) .free
      (setRecord ctx.channel (.failed .refLost (lostSpan ctx) none) s)
    have lines : linesOf (setChannel ctx.channel { channelOfState freed ctx.channel with state := .idle } freed) =
        { linesOf s with
          state := fun d => if d = ctx.channel then .idle else (linesOf s).state d
          lent := fun k => if k = groupOfChannel ctx.channel then none else (linesOf s).lent k
          record := fun d => if d = ctx.channel then .failed .refLost (lostSpan ctx) none else (linesOf s).record d } := by
      have engaged : (channelOfState s ctx.channel).context.isSome = (linesOf s).engaged ctx.channel := rfl
      simp only [freed, linesOf_setChannel, linesOf_setRecord, linesOf_setSection, channelOfState_setRecord,
        channelOfState_setSection]
      rw [ite_eq_self (linesOf s).engaged ctx.channel engaged]
    refine Kept.until (t := setChannel ctx.channel { channelOfState freed ctx.channel with state := .idle } freed) ?_ rfl
    unfold Kept
    rw [lines]
    exact Lines.keeps_return lent (by simp)
  · exact .refl s
  · exact .refl s

end Sys2Proof.Machine
end

section
/-! SUPPORT. The loss of the reference and the resets leave nothing at work (R31, R36, R52, R54), and the notice unit follows
the idle condition through every block (R164). -/

namespace Sys2Proof.Machine

/-! ### What a reference loss leaves -/

/-- What each element of a list brings about, and every other keeps, holds of each after all. -/
theorem foldl_establishes {σ α : Type} {f : σ → α → σ} {P : σ → α → Prop} (brings : ∀ s x, P (f s x) x)
    (keeps : ∀ s x y, P s x → P (f s y) x) {xs : List α} {x : α} (mem : x ∈ xs) (s : σ) : P (xs.foldl f s) x := by
  have kept : ∀ (ys : List α) (u : σ), P u x → P (ys.foldl f u) x := by
    intro ys
    induction ys with
    | nil => exact fun _ holds => holds
    | cons y ys ih => exact fun u holds => ih (f u y) (keeps u x y holds)
  induction xs generalizing s with
  | nil => cases mem
  | cons y ys ih =>
    rcases List.mem_cons.mp mem with rfl | later
    · exact kept ys _ (brings s x)
    · exact ih later (f s y)

theorem mem_lossSequence (index : Nat) (c : ChannelId) : c ∈ lossSequence index := by
  refine List.mem_append_right _ ?_
  fin_cases c <;> simp

theorem mem_allChannels (c : ChannelId) : c ∈ ([0, 1, 2, 3] : List ChannelId) := by
  fin_cases c <;> simp

@[simp] theorem loseCapture_timebase (s : State) (c : ChannelId) : (loseCapture s c).timebase = s.timebase := by
  unfold loseCapture
  split <;> simp

/-- What a reference loss makes of a channel (R31). -/
def lostChannel (ch : Channel) : Channel :=
  match ch.context with
  | none => ch
  | some ctx => { withBank ch ctx.bank .empty with state := .idle, context := none }

theorem lostChannel_context (ch : Channel) : (lostChannel ch).context = none := by
  unfold lostChannel
  split
  · next none => exact none
  · rfl

theorem lostChannel_of_none {ch : Channel} (none : ch.context = none) : lostChannel ch = ch := by
  unfold lostChannel
  rw [none]

theorem lostChannel_of_some {ch : Channel} {ctx : CaptureContext} (some : ch.context = some ctx) :
    lostChannel ch = { withBank ch ctx.bank .empty with state := .idle, context := none } := by
  unfold lostChannel
  rw [some]

theorem lostChannel_lost (ch : Channel) : lostChannel (lostChannel ch) = lostChannel ch :=
  lostChannel_of_none (lostChannel_context ch)

theorem channelOfState_releaseChannel (c d : ChannelId) (s : State) : channelOfState (releaseChannel c s) d =
    if c = d then lostChannel (channelOfState s d) else channelOfState s d := by
  by_cases same : c = d
  · subst same
    rw [if_pos rfl]
    unfold releaseChannel
    dsimp only
    split
    · next none => exact (lostChannel_of_none none).symm
    · next ctx some => exact (channelOfState_setChannel_same ..).trans (lostChannel_of_some some).symm
  · rw [if_neg same]
    unfold releaseChannel
    dsimp only
    split
    · rfl
    · exact channelOfState_setChannel_other _ _ _ _ same

/-- A stopped capture releases its channel, or both channels of its pair. -/
theorem channelOfState_stopCapture (c d : ChannelId) (mode : Mode) (s : State) :
    channelOfState (stopCapture c mode s) d =
      if c = d ∨ mode = .paired ∧ groupOfChannel c = groupOfChannel d then lostChannel (channelOfState s d)
      else channelOfState s d := by
  cases mode with
  | single =>
    simp only [stopCapture, reduceCtorEq, false_and, or_false]
    exact channelOfState_releaseChannel c d s
  | paired =>
    have split : c = d ∨ groupOfChannel c = groupOfChannel d ↔
        highChannel (groupOfChannel c) = d ∨ lowChannel (groupOfChannel c) = d := by
      revert c d
      decide
    simp only [stopCapture, channelOfState_setPair, channelOfState_releaseChannel, true_and, split]
    split_ifs <;> simp_all [lostChannel_lost]

theorem channelOfState_loseCapture (s : State) (c d : ChannelId) :
    channelOfState (loseCapture s c) d = channelOfState s d ∨
      channelOfState (loseCapture s c) d = lostChannel (channelOfState s d) := by
  unfold loseCapture
  split
  · exact .inl rfl
  · simp only [channelOfState, endJob_channels]
    rw [← channelOfState, channelOfState_stopCapture]
    split
    · exact .inr rfl
    · exact .inl rfl

theorem channelOfState_loseCapture_same (s : State) (c : ChannelId) :
    channelOfState (loseCapture s c) c = lostChannel (channelOfState s c) := by
  unfold loseCapture
  split
  · next none => simp [lostChannel, none]
  · simp only [channelOfState, endJob_channels]
    rw [← channelOfState, channelOfState_stopCapture, if_pos (.inl rfl)]
    rfl

/-- After a loss has reached all channels each is as the loss makes it. -/
theorem channelOfState_foldl_loseCapture {cs : List ChannelId} {d : ChannelId} (mem : d ∈ cs) (s : State) :
    channelOfState (cs.foldl loseCapture s) d = lostChannel (channelOfState s d) := by
  have either : ∀ (cs : List ChannelId) (u : State), channelOfState (cs.foldl loseCapture u) d = channelOfState u d ∨
      channelOfState (cs.foldl loseCapture u) d = lostChannel (channelOfState u d) := by
    intro cs
    induction cs with
    | nil => exact fun _ => .inl rfl
    | cons c cs ih =>
      intro u
      have first := channelOfState_loseCapture u c d
      have later := ih (loseCapture u c)
      rw [List.foldl_cons]
      rcases first with first | first <;> rw [first] at later
      · exact later
      · exact .inr (later.elim id fun lost => lost.trans (lostChannel_lost _))
  have disengaged := foldl_establishes (f := loseCapture) (P := fun u c => (channelOfState u c).context = none)
    (fun u c => by rw [channelOfState_loseCapture_same]; exact lostChannel_context _)
    (fun u c e none => by
      rcases channelOfState_loseCapture u e c with same | same <;> rw [same]
      · exact none
      · exact lostChannel_context _) mem s
  rcases either cs s with same | lost
  · rw [same] at disengaged ⊢
    simp [lostChannel, disengaged]
  · exact lost

@[simp] theorem loseCalibration_timebase (s : State) (c : ChannelId) : (loseCalibration s c).timebase = s.timebase := by
  unfold loseCalibration
  dsimp only
  (repeat' split) <;> rfl

theorem foldl_timebase {α : Type} {f : State → α → State} (each : ∀ s x, (f s x).timebase = s.timebase) (xs : List α)
    (s : State) : (xs.foldl f s).timebase = s.timebase := by
  induction xs generalizing s with
  | nil => rfl
  | cons x xs ih => exact (ih (f s x)).trans (each s x)

@[simp] theorem referenceLoss_timebase (s : State) : (referenceLoss s).timebase = s.timebase := by
  simp only [referenceLoss, followIdle_timebase, raise_timebase, foldl_timebase loseCalibration_timebase,
    foldl_timebase loseCapture_timebase]

/-- A loss of calibration touches one record. -/
theorem recordOf_loseCalibration_other {c d : ChannelId} (other : c ≠ d) (s : State) :
    recordOf (loseCalibration s c) d = recordOf s d := by
  unfold loseCalibration
  dsimp only
  (repeat' split) <;> simp [recordOf_setRecord, other]

/-- After a loss of calibration the record is neither VALID nor RUNNING. -/
theorem recordOf_loseCalibration_same (s : State) (c : ChannelId) :
    isValid (recordOf (loseCalibration s c) c) = false ∧ recordOf (loseCalibration s c) c ≠ .running := by
  unfold loseCalibration
  dsimp only
  (repeat' split) <;> simp_all [recordOf_setRecord, isValid]

/-- A loss of calibration leaves contexts alone. -/
theorem context_loseCalibration (s : State) (c d : ChannelId) :
    (channelOfState (loseCalibration s c) d).context = (channelOfState s d).context := by
  unfold loseCalibration
  dsimp only
  split
  · rfl
  · split
    · split
      · simp only [channelOfState_raise, channelOfState_setChannel]
        split
        · next same => rw [← same]; rfl
        · rfl
      · rfl
    · rfl
  · rfl
  · rfl

theorem foldl_loseCalibration_context (cs : List ChannelId) (s : State) (d : ChannelId) :
    (channelOfState (cs.foldl loseCalibration s) d).context = (channelOfState s d).context := by
  induction cs generalizing s with
  | nil => rfl
  | cons c cs ih => exact (ih _).trans (context_loseCalibration s c d)

/-- Fit lines with no context, and with no record VALID or RUNNING, are at rest. -/
theorem Lines.Fits.rests {v : Lines} (fits : v.Fits) (disengaged : ∀ c, v.engaged c = false)
    (ended : ∀ c, isValid (v.record c) = false ∧ v.record c ≠ .running) : v.Rests := by
  intro _ c
  have notLent (d : ChannelId) : v.state d ≠ .calibrating := fun calibrating => (ended d).2 ((fits.running d).mp calibrating)
  refine ⟨?_, ?_, (ended c).1⟩
  · have engaged := fits.engaged c
    rw [disengaged c] at engaged
    cases state : v.state c with
    | idle => rfl
    | settling => simp [state] at engaged
    | capturing => simp [state] at engaged
    | calibrating => exact absurd state (notLent c)
  · rcases lent : v.lent (groupOfChannel c) with _ | d
    · rfl
    · refine absurd ((fits.lent d).mpr ?_) (notLent d)
      rw [fits.grouped _ d lent]
      exact lent

/-- A reference loss keeps the lines fit and leaves them at rest (R31, R52). -/
theorem referenceLoss_rests {s : State} (fits : (linesOf s).Fits) :
    (linesOf (referenceLoss s)).Fits ∧ (linesOf (referenceLoss s)).Rests := by
  let lost := (lossSequence s.freeIndex).foldl loseCapture { s with freeIndex := s.freeIndex + 1 }
  let ended := ([0, 1, 2, 3] : List ChannelId).foldl loseCalibration lost
  have lines : linesOf (referenceLoss s) = linesOf ended := by
    unfold referenceLoss
    rw [linesOf_followIdle]
    rfl
  have endedFits : (linesOf ended).Fits :=
    ((Kept.foldl loseCapture_kept (lossSequence s.freeIndex) { s with freeIndex := s.freeIndex + 1 }).trans
      (Kept.foldl loseCalibration_kept [0, 1, 2, 3] lost) fits).1
  rw [lines]
  refine ⟨endedFits, endedFits.rests (fun c => ?_) fun c => ?_⟩
  · have : (channelOfState ended c).context = none := by
      rw [foldl_loseCalibration_context, channelOfState_foldl_loseCapture (mem_lossSequence _ c)]
      exact lostChannel_context _
    simp [linesOf, this]
  · exact foldl_establishes (f := loseCalibration)
      (P := fun u d => isValid (recordOf u d) = false ∧ recordOf u d ≠ .running) recordOf_loseCalibration_same
      (fun u d e holds => by
        by_cases same : e = d
        · exact same ▸ recordOf_loseCalibration_same u e
        · rw [recordOf_loseCalibration_other same]
          exact holds) (mem_allChannels c) lost

/-- The lines with the reference state changed. -/
theorem Kept.of_lock {s t : State} (lines : linesOf t = { linesOf s with locked := (linesOf t).locked })
    (locked : (linesOf t).locked) : Kept s t := by
  intro fits
  refine ⟨?_, fun _ outside => absurd locked outside⟩
  rw [lines]
  exact ⟨fits.engaged, fits.lent, fits.running, fits.grouped, fits.queued⟩

theorem linesFits_of_timebase {s : State} (fits : (linesOf s).Fits) (x : Timebase) :
    (linesOf { s with timebase := x }).Fits :=
  ⟨fits.engaged, fits.lent, fits.running, fits.grouped, fits.queued⟩

theorem endGate_kept (edges : Nat) (s : State) : Kept s (endGate edges s) := by
  intro fits
  unfold endGate
  dsimp only
  split
  · obtain ⟨fits', rests⟩ := referenceLoss_rests (linesFits_of_timebase fits _)
    exact ⟨fits', fun _ => rests⟩
  · next notLost =>
    split
    · next locks =>
      let locked : State :=
        { s with timebase := { newGate s.timebase with
            refState := (afterGate s.timebase.refState s.timebase.run (classifyGate edges) (gateInLock s.timebase)).1
            run := (afterGate s.timebase.refState s.timebase.run (classifyGate edges) (gateInLock s.timebase)).2
            coarse := 0 } }
      exact (((Kept.of_lock (s := s) (t := raise .refChange locked) rfl locks.2).trans (examineBoth_kept _)).until
        (linesOf_followIdle _)) fits
    · next notLocks =>
      refine ⟨linesFits_of_timebase fits _, fun rests outside => rests fun before => ?_⟩
      exact notLost ⟨before, outside⟩

theorem reportUnlock_kept (s : State) : Kept s (reportUnlock s) := by
  intro fits
  unfold reportUnlock
  dsimp only
  split
  · obtain ⟨fits', rests⟩ := referenceLoss_rests (linesFits_of_timebase fits _)
    exact ⟨fits', fun _ => rests⟩
  · exact ⟨fits, id⟩

/-! ### Resets -/

theorem resetBlocks_kept (link : Link) (s : State) : Kept s (resetBlocks link s) := by
  have channel (c : ChannelId) : channelOfState (resetBlocks link s) c = Channel.afterReset (channelOfState s c).config := by
    simp [channelOfState, resetBlocks]
  have record (c : ChannelId) : recordOf (resetBlocks link s) c = recordAfterReset (recordOf s c) := by
    simp [recordOf, resetBlocks]
  have section_ (g : Group) : sectionContext (resetBlocks link s) g = none := by cases g <;> rfl
  intro _
  constructor
  · refine Lines.fits_of_rest (fun c => ?_) (fun c => ?_) (fun g => ?_) (fun c => ?_) fun g c waits => ?_
    · simp [linesOf, channel, Channel.afterReset]
    · simp [linesOf, channel, Channel.afterReset]
    · simp [linesOf, section_]
    · simp only [linesOf, record]
      cases recordOf s c <;> simp [recordAfterReset]
    · cases g <;> simp [linesOf, queueOf, resetBlocks, PerGroup.of] at waits
  · intro rests outside c
    have invalid := (rests outside c).2.2
    refine ⟨by simp [linesOf, channel, Channel.afterReset], by simp [linesOf, section_], ?_⟩
    simp only [linesOf, record] at invalid ⊢
    cases kind : recordOf s c <;> simp_all [recordAfterReset, isValid]

/-- Power-on leaves nothing at work. -/
theorem powerOn_rests (receiveLine triggerLine : Level) (sample : Option Int) (s : State) :
    (linesOf (powerOn receiveLine triggerLine sample s)).Fits ∧
      (linesOf (powerOn receiveLine triggerLine sample s)).Rests := by
  let t := powerOn receiveLine triggerLine sample s
  have channel (c : ChannelId) : channelOfState t c = Channel.afterReset .powerOn := by
    simp [t, channelOfState, powerOn, State.reset]
  have record (c : ChannelId) : recordOf t c = .uncal := by
    simp [t, recordOf, powerOn, State.reset]
  have section_ (g : Group) : sectionContext t g = none := by cases g <;> rfl
  constructor
  · refine Lines.fits_of_rest (fun c => ?_) (fun c => ?_) (fun g => ?_) (fun c => ?_) fun g c waits => ?_
    · exact congrArg Channel.state (channel c)
    · exact congrArg (fun ch => ch.context.isSome) (channel c)
    · exact congrArg (Option.map (·.channel)) (section_ g)
    · exact fun running => absurd ((record c).symm.trans running) (by simp)
    · cases g <;> simp [linesOf, queueOf, powerOn, State.reset, PerGroup.of] at waits
  · intro _ c
    exact ⟨congrArg Channel.state (channel c), congrArg (Option.map SectionContext.channel) (section_ (groupOfChannel c)),
      congrArg isValid (record c)⟩

theorem powerOn_kept (receiveLine triggerLine : Level) (sample : Option Int) (s : State) :
    Kept s (powerOn receiveLine triggerLine sample s) := fun _ =>
  have ⟨fits, rests⟩ := powerOn_rests receiveLine triggerLine sample s
  ⟨fits, fun _ => rests⟩

/-! ### Every block -/

theorem takeTrigger_kept (s : State) : Kept s (takeTrigger s) := by
  let disarmed : State :=
    { s with jobs := s.jobs.map (Option.map releaseHeld), trigger := { s.trigger with state := .disarmed } }
  exact ((examineBoth_kept (raise .triggerTaken disarmed)).until (linesOf_followIdle _)).since rfl

theorem removeEntry_kept (j : Job) (s : State) : Kept s (removeEntry j s) := by
  unfold Kept removeEntry
  rw [linesOf_setQueue]
  refine Lines.keeps_queued fun g c waits => .inl ?_
  split at waits
  · next same => exact same ▸ (List.mem_filter.mp waits).1
  · exact waits

theorem cancelWork_kept (j : Job) (s : State) : Kept s (cancelWork j s) := by
  have stopped : Kept s (stopJobCapture j s) := by
    unfold stopJobCapture
    split
    · exact .refl s
    · exact stopCapture_kept _ _ s
  unfold cancelWork
  split
  · exact removeEntry_kept j s
  · exact removeEntry_kept j s
  · exact stopped
  · exact stopped
  · unfold dropItem
    split
    · exact .refl s
    · exact .of_lines ((linesOf_freeItemBanks _ _).trans rfl)
  · unfold abandonItem
    split
    · exact .of_lines (linesOf_takeItem _)
    · exact .of_lines ((linesOf_takeItem _).trans ((linesOf_freeItemBanks _ _).trans rfl))

theorem enginePost_kept (s : State) : Kept s (enginePost s) := by
  unfold enginePost
  split
  · next item w _ =>
    split
    · next j _ =>
      refine Kept.examined (t := takeItem (setEngine .idle (finishJob j w (freeItemBanks item s)))) (.of_lines ?_) _
      rw [linesOf_takeItem]
      exact (linesOf_finishJob j w _).trans (linesOf_freeItemBanks item s)
    · exact .refl s
  · exact .refl s

/-- A job that waits in a queue is no calibration. -/
theorem linesOf_enqueueJob (g : Group) (id : Nat) (site : Site) (s : State) :
    linesOf (setQueue g (queueOf s g ++ [.job id site]) s) = linesOf s := by
  have same : (fun k c => if k = g then Entry.calibration c ∈ queueOf s g ++ [.job id site] else (linesOf s).queued k c) =
      (linesOf s).queued := by
    funext k c
    split
    · next there => simp [there, linesOf]
    · rfl
  rw [linesOf_setQueue, same]

theorem linesOf_raiseInUse (j : Job) (s : State) : linesOf (raiseInUse j s) = linesOf s := by
  unfold raiseInUse
  split <;> rfl

theorem linesOf_acceptJob (j : Job) (s : State) : linesOf (acceptJob j s) = linesOf s :=
  (linesOf_enqueueJob _ _ _ _).trans (linesOf_raiseInUse j { s with jobCounter := advanceId j.id })

/-- Every block keeps the lines fit and, outside LOCKED, at rest. -/
theorem Block.kept {s t : State} (block : Block s t) : Kept s t := by
  cases block with
  | link l s _ _ => exact .of_lines rfl
  | trigger x s => exact .of_lines rfl
  | notices n s _ => exact .of_lines rfl
  | timebase x s sameState => exact .of_lines (linesOf_congr rfl rfl rfl rfl sameState)
  | gateEnd edges s => exact endGate_kept edges s
  | unlockReport s => exact reportUnlock_kept s
  | powerOn receiveLine triggerLine sample s => exact powerOn_kept receiveLine triggerLine sample s
  | reset tx detector low cause s => exact resetBlocks_kept _ s
  | calSettlingEnd g s => exact endCalSettling_kept g s
  | code g code s => exact deliverCode_kept g code s
  | codeDensityEnd g s => exact endCodeDensity_kept g s
  | floorGate g s => exact openFloorGate_kept g s
  | floorEdge g code s => exact takeFloorEdge_kept g code s
  | floorTimeout g s => exact expireFloorTimeout_kept g s
  | floorComputation g s => exact endFloorComputation_kept g s
  | settlingEnd c s => exact endSettling_kept c s
  | edge c code s => exact takeComparatorEdge_kept c code s
  | edgeTimeout c s => exact expireEdgeTimeout_kept c s
  | engine e s _ => exact .of_lines rfl
  | enginePost s => exact enginePost_kept s
  | triggerTaken s => exact takeTrigger_kept s
  | channelConfig c config s _ => exact .of_lines (linesOf_setChannel_same rfl rfl)
  | invalidate c s idle =>
    refine Kept.of_fits fun fits => ?_
    unfold Kept
    rw [linesOf_setRecord]
    refine Lines.keeps_invalidate (fun running => ?_) (by simp) rfl
    have calibrating : (channelOfState s c).state = .calibrating := (fits.running c).mpr running
    simp [idle] at calibrating
  | calibrate c s _ =>
    refine Kept.examined (t := setQueue _ _ s) ?_ _
    unfold Kept
    rw [linesOf_setQueue]
    refine Lines.keeps_queued fun g d waits => ?_
    split at waits
    · next same =>
      rcases List.mem_append.mp waits with before | new
      · exact .inl (same ▸ before)
      · simp only [List.mem_singleton, Entry.calibration.injEq] at new
        exact .inr (by rw [same, new])
    · exact .inl waits
  | limitEntry index e s _ _ => exact .of_lines rfl
  | limitExtent extent s _ _ _ => exact .of_lines rfl
  | lot lot s => exact .of_lines rfl
  | submit f draft s _ _ => exact (Kept.of_lines (linesOf_acceptJob _ s)).examined _
  | cancel site j s _ => exact ((cancelWork_kept j s).until (linesOf_endJob _ _ _)).examined _
  | resultRead site r s => exact .of_lines rfl
  | resultClear site s => exact .of_lines rfl

/-! ### The idle condition (R164) -/

theorem followIdle_followed (s : State) : IdleFollowed (followIdle s) := by
  have same : idleCondition (followIdle s) = idleCondition s := by simp [idleCondition]
  unfold IdleFollowed
  rw [same]
  rfl

/-- An event that leaves the idle condition as it was, and what the notice unit last followed. -/
def SameIdle (s t : State) : Prop :=
  t.notices.idleHolds = s.notices.idleHolds ∧ idleCondition t = idleCondition s

/-- What the idle condition is made of. -/
theorem idleCondition_congr {s t : State} (queues : t.queues = s.queues) (items : t.analysisQueue = s.analysisQueue)
    (engine : t.engine = .idle ↔ s.engine = .idle)
    (states : ∀ c, (channelOfState t c).state = .idle ↔ (channelOfState s c).state = .idle) :
    idleCondition t = idleCondition s := by
  have channels (u : State) : (u.channels.all fun ch => decide (ch.state = .idle)) = decide (∀ c, (channelOfState u c).state = .idle) := by
    rw [Bool.eq_iff_iff]
    simp only [Vector.all_eq_true, decide_eq_true_eq]
    exact ⟨fun all c => all c.val c.isLt, fun all i lt => all ⟨i, lt⟩⟩
  unfold idleCondition
  rw [channels, channels, queues, items]
  simp only [engine, states]

/-- An event of a channel or a section that leaves each channel as idle as it was. -/
theorem SameIdle.of {s t : State} (queues : t.queues = s.queues) (items : t.analysisQueue = s.analysisQueue)
    (engine : t.engine = s.engine) (notices : t.notices = s.notices)
    (states : ∀ c, (channelOfState t c).state = .idle ↔ (channelOfState s c).state = .idle) : SameIdle s t :=
  ⟨by rw [notices], idleCondition_congr queues items (by rw [engine]) states⟩

/-- The notice unit goes on following: the event followed the idle condition at its end, or left it alone. -/
def Follows (s t : State) : Prop :=
  IdleFollowed t ∨ SameIdle s t

theorem Follows.followed {s t : State} (follows : Follows s t) (before : IdleFollowed s) : IdleFollowed t := by
  rcases follows with followed | ⟨holds, same⟩
  · exact followed
  · unfold IdleFollowed
    rw [holds, same]
    exact before

theorem Follows.refl (s : State) : Follows s s := .inr ⟨rfl, rfl⟩

theorem Follows.ended (s u : State) : Follows s (followIdle u) := .inl (followIdle_followed u)

theorem SameIdle.trans {s t u : State} (first : SameIdle s t) (second : SameIdle t u) : SameIdle s u :=
  ⟨second.1.trans first.1, second.2.trans first.2⟩

theorem Follows.since {s t u : State} (follows : Follows t u) (same : SameIdle s t) : Follows s u :=
  follows.imp_right same.trans

theorem setChannel_sameIdle {c : ChannelId} {x : Channel} {s : State}
    (state : x.state = .idle ↔ (channelOfState s c).state = .idle) : SameIdle s (setChannel c x s) := by
  refine .of rfl rfl rfl rfl fun d => ?_
  rw [channelOfState_setChannel]
  split
  · next same => exact same ▸ state
  · rfl

theorem passTicks_sameIdle (ticks : Nat) (s : State) : SameIdle s (passTicks ticks s) :=
  .of (by simp) (by simp) (by simp) (by simp) (by simp)

theorem toDueTick_sameIdle {c : ChannelId} {s t : State} (due : toDueTick c s = some t) : SameIdle s t := by
  unfold toDueTick at due
  split at due
  · cases due
  · split at due
    · cases due
      exact passTicks_sameIdle _ s
    · cases due

theorem setSection_sameIdle (g : Group) (x : CalSection) (s : State) : SameIdle s (setSection g x s) := ⟨rfl, rfl⟩

theorem setJobState_sameIdle (id : Nat) (state : JobState) (s : State) : SameIdle s (setJobState id state s) :=
  .of (by simp) (by simp) (by simp) (by simp) (by simp [channelOfState])

/-- A gate that opens finds its channel not IDLE. -/
theorem openGate_sameIdle {c : ChannelId} {s : State} (fits : (linesOf s).Fits) : SameIdle s (openGate c s) := by
  unfold openGate
  dsimp only
  split
  · exact ⟨rfl, rfl⟩
  · next ctx held =>
    have working := (fits.engaged c).mp (by simp [linesOf, held])
    exact setChannel_sameIdle ⟨fun idle => by simp at idle, fun idle => by simp [linesOf, idle] at working⟩

theorem takeSettlingEnd_sameIdle {c : ChannelId} {s : State} (fits : (linesOf s).Fits) :
    SameIdle s (takeSettlingEnd c s) := by
  unfold takeSettlingEnd
  split
  · exact ⟨rfl, rfl⟩
  · split
    · exact (openGate_sameIdle fits).trans (setJobState_sameIdle _ _ _)
    · unfold reportSettled
      dsimp only
      split
      · split
        · have both : SameIdle s (openGate (highChannel (groupOfChannel c)) (openGate (lowChannel (groupOfChannel c)) s)) :=
            (openGate_sameIdle fits).trans (openGate_sameIdle (openGate_kept _ s fits).1)
          exact (both.trans (u := setPair (groupOfChannel c) _ _) ⟨rfl, rfl⟩).trans (setJobState_sameIdle _ _ _)
        · exact ⟨rfl, rfl⟩
      · exact ⟨rfl, rfl⟩

theorem failCapture_followed (c : ChannelId) (ctx : CaptureContext) (status : Ending) (s : State) :
    IdleFollowed (failCapture c ctx status s) := by
  unfold failCapture
  exact followIdle_followed _

theorem endCalibration_followed (g : Group) (c : ChannelId) (record : CalRecord) (s : State) :
    IdleFollowed (endCalibration g c record s) := by
  unfold endCalibration
  exact followIdle_followed _

theorem endSettling_follows {c : ChannelId} {s : State} (fits : (linesOf s).Fits) : Follows s (endSettling c s) := by
  unfold endSettling
  split
  · split
    · next t due =>
      have fits' : (linesOf t).Fits := by
        rw [linesOf_toDueTick due]
        exact fits
      exact .inr ((toDueTick_sameIdle due).trans (takeSettlingEnd_sameIdle fits'))
    · exact .refl s
  · exact .refl s

theorem expireEdgeTimeout_follows (c : ChannelId) (s : State) : Follows s (expireEdgeTimeout c s) := by
  unfold expireEdgeTimeout
  split
  · exact .refl s
  · split
    · exact .inl (failCapture_followed ..)
    · exact .refl s

theorem completeSingle_followed (c : ChannelId) (ctx : CaptureContext) (s : State) :
    IdleFollowed (completeSingle c ctx s) := by
  unfold completeSingle
  exact followIdle_followed _

theorem completePair_followed (g : Group) (low high : CaptureContext) (s : State) :
    IdleFollowed (completePair g low high s) := by
  unfold completePair
  exact followIdle_followed _

theorem endRecord_follows (c : ChannelId) (ctx : CaptureContext) (s : State) : Follows s (endRecord c ctx s) := by
  unfold endRecord
  split
  · exact .inl (completeSingle_followed ..)
  · unfold reportFull
    dsimp only
    split
    · split
      · split
        · exact .inl (completePair_followed ..)
        · exact .refl s
      · exact .inr ⟨rfl, rfl⟩
    · exact .refl s

theorem takeTimestamp_follows (c : ChannelId) (ctx : CaptureContext) (t : Timestamp) (s : State) :
    Follows s (takeTimestamp c ctx t s) := by
  have stored : SameIdle s (storeTimestamp c ctx t s) :=
    setChannel_sameIdle (iff_of_eq (congrArg (· = ChannelState.idle) (withBank_state _ _ _)))
  unfold takeTimestamp
  split
  · dsimp only
    split
    · exact (endRecord_follows c ctx _).since stored
    · exact .inr stored
  · exact .inl (failCapture_followed ..)

theorem takeFloorEdge_follows (g : Group) (code : Byte) (s : State) : Follows s (takeFloorEdge g code s) := by
  unfold takeFloorEdge
  split
  · exact .refl s
  · split
    · dsimp only
      split
      · exact .inr (setSection_sameIdle ..)
      · exact .inl (endCalibration_followed ..)
    · exact .refl s

theorem deliverCode_sameIdle (g : Group) (code : Byte) (s : State) : SameIdle s (deliverCode g code s) := by
  unfold deliverCode
  split
  · exact ⟨rfl, rfl⟩
  · split <;> exact ⟨rfl, rfl⟩

theorem takeComparatorEdge_follows (c : ChannelId) (code : Byte) (s : State) :
    Follows s (takeComparatorEdge c code s) := by
  unfold takeComparatorEdge
  split
  · split
    · exact (takeTimestamp_follows c _ _ _).since (setChannel_sameIdle Iff.rfl)
    · exact .inr (setChannel_sameIdle Iff.rfl)
  · split
    · exact (takeFloorEdge_follows _ code _).since (deliverCode_sameIdle _ code s)
    · exact .refl s

theorem endCalSettling_sameIdle (g : Group) (s : State) : SameIdle s (endCalSettling g s) := by
  unfold endCalSettling
  split
  · exact ⟨rfl, rfl⟩
  · split
    · split
      · next due => exact (toDueTick_sameIdle due).trans (setSection_sameIdle ..)
      · exact ⟨rfl, rfl⟩
    · exact ⟨rfl, rfl⟩

/-- The channel of a section starts the floor pass CALIBRATING, as it was. -/
theorem endCodeDensity_follows {g : Group} {s : State} (fits : (linesOf s).Fits) : Follows s (endCodeDensity g s) := by
  unfold endCodeDensity
  split
  · exact .refl s
  · next ctx busy =>
    split
    · split
      · exact .inl (endCalibration_followed ..)
      · exact .inr ((setSection_sameIdle ..).trans
          (setChannel_sameIdle (by simp [fits.calibrating busy])))
    · exact .refl s

theorem openFloorGate_sameIdle (g : Group) (s : State) : SameIdle s (openFloorGate g s) := by
  unfold openFloorGate
  split
  · exact ⟨rfl, rfl⟩
  · split
    · split
      · next due =>
        exact (toDueTick_sameIdle due).trans ((setSection_sameIdle ..).trans (setChannel_sameIdle Iff.rfl))
      · exact ⟨rfl, rfl⟩
    · exact ⟨rfl, rfl⟩

theorem expireFloorTimeout_follows (g : Group) (s : State) : Follows s (expireFloorTimeout g s) := by
  unfold expireFloorTimeout
  split
  · exact .refl s
  · split
    · split
      · exact .inl (endCalibration_followed ..)
      · exact .refl s
    · exact .refl s

theorem endFloorComputation_follows (g : Group) (s : State) : Follows s (endFloorComputation g s) := by
  unfold endFloorComputation
  split
  · exact .refl s
  · split
    · exact .inl (endCalibration_followed ..)
    · exact .refl s

theorem enginePost_follows (s : State) : Follows s (enginePost s) := by
  unfold enginePost
  split
  · split
    · exact .ended s _
    · exact .refl s
  · exact .refl s

theorem referenceLoss_followed (s : State) : IdleFollowed (referenceLoss s) := by
  unfold referenceLoss
  exact followIdle_followed _

theorem lockEvent_followed (s : State) : IdleFollowed (lockEvent s) := by
  unfold lockEvent
  exact followIdle_followed _

theorem endGate_follows (edges : Nat) (s : State) : Follows s (endGate edges s) := by
  unfold endGate
  dsimp only
  split
  · exact .inl (referenceLoss_followed _)
  · split
    · exact .inl (lockEvent_followed _)
    · exact .inr ⟨rfl, rfl⟩

theorem reportUnlock_follows (s : State) : Follows s (reportUnlock s) := by
  unfold reportUnlock
  dsimp only
  split
  · exact .inl (referenceLoss_followed _)
  · exact .inr ⟨rfl, rfl⟩

theorem resetBlocks_followed (link : Link) (s : State) : IdleFollowed (resetBlocks link s) := by
  simp [IdleFollowed, idleCondition, resetBlocks, Notices.afterReset, Channel.afterReset]

theorem powerOn_followed (receiveLine triggerLine : Level) (sample : Option Int) (s : State) :
    IdleFollowed (powerOn receiveLine triggerLine sample s) :=
  show State.reset.notices.idleHolds = idleCondition State.reset by
    simp [State.reset, idleCondition, Notices.afterReset, Channel.afterReset]

/-- Only an IDLE engine has no item. -/
theorem engineItem_eq_none {e : Engine} : engineItem e = none ↔ e = .idle := by
  cases e <;> simp [engineItem]

/-- Every block follows the idle condition, or leaves it alone. -/
theorem Block.follows {s t : State} (fits : (linesOf s).Fits) (block : Block s t) : Follows s t := by
  cases block with
  | link l s _ _ => exact .inr ⟨rfl, rfl⟩
  | trigger x s => exact .inr ⟨rfl, rfl⟩
  | notices n s followed => exact .inr ⟨followed, rfl⟩
  | timebase x s _ => exact .inr ⟨rfl, rfl⟩
  | gateEnd edges s => exact endGate_follows edges s
  | unlockReport s => exact reportUnlock_follows s
  | powerOn receiveLine triggerLine sample s => exact .inl (powerOn_followed ..)
  | reset tx detector low cause s => exact .inl (resetBlocks_followed ..)
  | calSettlingEnd g s => exact .inr (endCalSettling_sameIdle g s)
  | code g code s => exact .inr (deliverCode_sameIdle g code s)
  | codeDensityEnd g s => exact endCodeDensity_follows fits
  | floorGate g s => exact .inr (openFloorGate_sameIdle g s)
  | floorEdge g code s => exact takeFloorEdge_follows g code s
  | floorTimeout g s => exact expireFloorTimeout_follows g s
  | floorComputation g s => exact endFloorComputation_follows g s
  | settlingEnd c s => exact endSettling_follows fits
  | edge c code s => exact takeComparatorEdge_follows c code s
  | edgeTimeout c s => exact expireEdgeTimeout_follows c s
  | engine e s sameItem =>
    refine .inr ⟨rfl, idleCondition_congr rfl rfl ?_ fun _ => Iff.rfl⟩
    rw [← engineItem_eq_none, ← engineItem_eq_none]
    exact iff_of_eq (congrArg (· = none) sameItem)
  | enginePost s => exact enginePost_follows s
  | triggerTaken s => exact .ended s _
  | channelConfig c config s _ => exact .inr (setChannel_sameIdle Iff.rfl)
  | invalidate c s _ => exact .inr ⟨rfl, rfl⟩
  | calibrate c s _ => exact .ended s _
  | limitEntry index e s _ _ => exact .inr ⟨rfl, rfl⟩
  | limitExtent extent s _ _ _ => exact .inr ⟨rfl, rfl⟩
  | lot lot s => exact .inr ⟨rfl, rfl⟩
  | submit f draft s _ _ => exact .ended s _
  | cancel site j s _ => exact .ended s _
  | resultRead site r s => exact .inr ⟨rfl, rfl⟩
  | resultClear site s => exact .inr ⟨rfl, rfl⟩

theorem Block.keeps_fits (s t : State) (block : Block s t) (fits : (linesOf s).Fits) : (linesOf t).Fits :=
  (block.kept fits).1

theorem Block.keeps_rests (s t : State) (block : Block s t) (holds : (linesOf s).Fits ∧ (linesOf s).Rests) :
    (linesOf t).Fits ∧ (linesOf t).Rests := by
  obtain ⟨fits', rests'⟩ := block.kept holds.1
  exact ⟨fits', rests' holds.2⟩

theorem Block.keeps_followed (s t : State) (block : Block s t) (holds : (linesOf s).Fits ∧ IdleFollowed s) :
    (linesOf t).Fits ∧ IdleFollowed t :=
  ⟨(block.kept holds.1).1, (block.follows holds.1).followed holds.2⟩

/-- Settles O57: every command and every event is a sequence of blocks, each of which keeps the lines fit, at rest outside
LOCKED, and followed. -/
theorem stepKeepsChannelsSectionsAndIdleCondition : Obligations.StepKeepsChannelsSectionsAndIdleCondition := by
  unfold Obligations.StepKeepsChannelsSectionsAndIdleCondition
  intro s t next
  simp only [channelsFit_iff, lostReferenceStopsWork_iff]
  intro fits
  exact ⟨step_keeps (fun _ _ _ holds => holds) Block.keeps_fits next fits,
    fun rests => (step_keeps (fun _ _ _ holds => holds) Block.keeps_rests next ⟨fits, rests⟩).2,
    fun followed => (step_keeps (fun _ _ _ holds => holds) Block.keeps_followed next ⟨fits, followed⟩).2⟩

end Sys2Proof.Machine
end

section
/-! SUPPORT. The live jobs, their ids and their limit entries through the moves of the ledger (R58, R61, R62, R143), and each
job with exactly the work its state says through the blocks (R19, R23, R63, R66, R88, R89). -/

namespace Sys2Proof.Machine

/-! ### Ids (R62) -/

theorem idsDistinct_iff (s : State) : IdsDistinct s ↔ Named s ∧ CounterFits s := by
  unfold IdsDistinct Named CounterFits JobsAtHome
  rw [ids_iff]
  tauto

theorem advanceId_counts {id : Nat} (least : 1 ≤ id) (greatest : id ≤ 65535) : 1 ≤ advanceId id ∧ advanceId id ≤ 65535 := by
  unfold advanceId
  split <;> omega

theorem freeIdFrom_counts (live : List Nat) (n : Nat) {id : Nat} (least : 1 ≤ id) (greatest : id ≤ 65535) :
    1 ≤ freeIdFrom live n id ∧ freeIdFrom live n id ≤ 65535 := by
  induction n generalizing id with
  | zero => exact ⟨least, greatest⟩
  | succ n ih =>
    unfold freeIdFrom
    split
    · obtain ⟨least', greatest'⟩ := advanceId_counts least greatest
      exact ih least' greatest'
    · exact ⟨least, greatest⟩

theorem jobAt_congr {s t : State} (same : t.jobs = s.jobs) : jobAt t = jobAt s := by
  funext site
  simp only [jobAt, same]

/-- Jobs that each stand where a job of their id and site stood are named as those were. -/
theorem Named.of_sub {s t : State} (named : Named s)
    (sub : ∀ i j, jobAt t i = some j → ∃ l, jobAt s i = some l ∧ j.id = l.id ∧ j.site = l.site) : Named t := by
  obtain ⟨home, ids⟩ := named
  constructor
  · intro i j live
    obtain ⟨l, before, -, site⟩ := sub i j live
    exact site.trans (home i l before)
  · intro i k j l live other same
    obtain ⟨j', before, sameId, -⟩ := sub i j live
    obtain ⟨l', before', sameId', -⟩ := sub k l other
    exact ids i k j' l' before before' (sameId ▸ sameId' ▸ same)

theorem jobAt_finishJob (j : Job) (w : Working) (s : State) (i : Site) :
    jobAt (finishJob j w s) i = if j.site = i then none else jobAt s i := by
  have before : jobAt (lowerInUse j (post (formRecord s j w) s)) = jobAt s := jobAt_congr (by simp)
  rw [finishJob, jobAt_setJob, before]

theorem jobAt_acceptJob (j : Job) (s : State) (i : Site) :
    jobAt (acceptJob j s) i = if j.site = i then some j else jobAt s i := by
  have before : jobAt (raiseInUse j { s with jobCounter := advanceId j.id }) = jobAt s :=
    jobAt_congr (by unfold raiseInUse; split <;> rfl)
  calc jobAt (acceptJob j s) i
      = jobAt (setJob j.site (some j) (raiseInUse j { s with jobCounter := advanceId j.id })) i := rfl
    _ = if j.site = i then some j else jobAt s i := by rw [jobAt_setJob, before]

/-- The jobs once the HELD ones are released (R86). -/
theorem jobAt_release (s : State) (i : Site) :
    jobAt { s with jobs := s.jobs.map (Option.map releaseHeld) } i = (jobAt s i).map releaseHeld := by
  simp [jobAt]

theorem acceptJob_counter (j : Job) (s : State) : (acceptJob j s).jobCounter = advanceId j.id := by
  simp only [acceptJob, raiseInUse]
  split <;> rfl

/-- A submission that passes finds its site free (R57). -/
theorem free_of_submissionFault_none {s : State} {j : Job} (passes : submissionFault s j = none) : jobAt s j.site = none := by
  unfold submissionFault at passes
  split at passes
  · cases passes
  · next free => simpa using free

theorem CounterFits.congr {s t : State} (fits : CounterFits s) (same : t.jobCounter = s.jobCounter) : CounterFits t := by
  unfold CounterFits
  rwa [same]

/-- A job of a fresh id at a free site leaves the jobs named. -/
theorem Named.accept {s : State} (named : Named s) {j : Job}
    (fresh : ∀ i l, jobAt s i = some l → l.id ≠ j.id) : Named (acceptJob j s) := by
  obtain ⟨home, ids⟩ := named
  simp only [Named, jobAt_acceptJob]
  constructor
  · intro i l live
    split at live
    · next there => cases live; exact there
    · exact home i l live
  · intro i k l m live other same
    split at live <;> split at other
    · next here there => rw [← here, ← there]
    · cases live
      exact absurd same.symm (fresh k m other)
    · cases other
      exact absurd same (fresh i l live)
    · exact ids i k l m live other same

theorem Ledger.idsDistinct {s t : State} (moved : Ledger s t) : Named s ∧ CounterFits s → Named t ∧ CounterFits t := by
  induction moved with
  | frame same =>
    simp only [ledgerOf, Prod.mk.injEq] at same
    exact fun ⟨named, counter⟩ => ⟨named.congr same.1, counter.congr same.2.1⟩
  | trans _ _ first second => exact fun holds => second (first holds)
  | @change s site j j' live sameId sameSite sameLimit =>
    rintro ⟨named, counter⟩
    refine ⟨named.of_sub fun i l live' => ?_, counter⟩
    rw [jobAt_setJob] at live'
    split at live'
    · next there =>
      cases live'
      have here : i = site := there ▸ named.1 site j live
      exact ⟨j, here ▸ live, sameId, sameSite⟩
    · exact ⟨l, live', rfl, rfl⟩
  | release s =>
    rintro ⟨named, counter⟩
    refine ⟨named.of_sub fun i j live => ?_, counter⟩
    rw [jobAt_release, Option.map_eq_some_iff] at live
    obtain ⟨l, before, rfl⟩ := live
    exact ⟨l, before, (releaseHeld_spec l).1, (releaseHeld_spec l).2.1⟩
  | @finish s site j w live =>
    rintro ⟨named, counter⟩
    refine ⟨named.of_sub fun i l live' => ?_, counter.congr (by simp)⟩
    rw [jobAt_finishJob] at live'
    split at live'
    · cases live'
    · exact ⟨l, live', rfl, rfl⟩
  | accept drafted passes =>
    rintro ⟨named, least, greatest⟩
    have free := free_of_submissionFault_none passes
    refine ⟨named.accept (assignedId_fresh free least greatest), ?_⟩
    unfold CounterFits
    rw [acceptJob_counter]
    obtain ⟨least', greatest'⟩ := freeIdFrom_counts ((liveJobs _).map (·.id)) 16 least greatest
    exact advanceId_counts least' greatest'
  | _ => exact fun holds => holds

/-- A part with no live job and the counter at 1. -/
theorem idsDistinct_of_empty {s : State} (empty : s.jobs = Vector.replicate 16 none) (counter : s.jobCounter = 1) :
    Named s ∧ CounterFits s := by
  have none (i : Site) : jobAt s i = Option.none := by simp [jobAt, empty]
  refine ⟨⟨fun i j live => ?_, fun i k j l live => ?_⟩, by simp [CounterFits, counter]⟩ <;> simp [none] at live

theorem Block.idsDistinct (s t : State) (block : Block s t) (holds : Named s ∧ CounterFits s) : Named t ∧ CounterFits t := by
  obtain ⟨l, -, -, rfl⟩ | ⟨tx, detector, low, cause, rfl⟩ | ⟨receiveLine, triggerLine, sample, rfl⟩ | moved := block.ledger
  · exact holds
  · exact idsDistinct_of_empty rfl rfl
  · exact idsDistinct_of_empty rfl rfl
  · exact moved.idsDistinct holds

/-! ### In-use counts (R143) -/

/-- The sites whose live job names an entry. -/
def usersOf (s : State) (index : Fin 64) : Finset Site :=
  Finset.univ.filter fun i => (jobAt s i).bind (·.limit) = some index

theorem mem_usersOf {s : State} {index : Fin 64} {i : Site} :
    i ∈ usersOf s index ↔ (jobAt s i).bind (·.limit) = some index := by
  simp [usersOf]

/-- The live jobs that name an entry are as many as their sites. -/
theorem countP_liveJobs (s : State) (index : Fin 64) :
    (liveJobs s).countP (fun j => decide (j.limit = some index)) = (usersOf s index).card := by
  have sites : (fun i => ((jobAt s i).map fun j => decide (j.limit = some index)).getD false) =
      fun i => decide ((jobAt s i).bind (·.limit) = some index) := by
    funext i
    cases jobAt s i <;> simp
  rw [liveJobs_eq, List.countP_filterMap, sites, List.countP_eq_length_filter]
  rfl

theorem inUseExact_iff (s : State) :
    InUseExact s ↔ JobsAtHome s ∧ ∀ index, inUseOf s index = (usersOf s index).card := by
  simp only [InUseExact, countP_liveJobs]

theorem usersOf_congr {s t : State} (same : ∀ i, (jobAt t i).bind (·.limit) = (jobAt s i).bind (·.limit)) :
    usersOf t = usersOf s := by
  funext index
  simp only [usersOf, same]

theorem inUseOf_congr {s t : State} (same : t.limits = s.limits) : inUseOf t = inUseOf s := by
  funext index
  simp only [inUseOf, same]

theorem inUseOf_finishJob (j : Job) (w : Working) (s : State) (index : Fin 64) : inUseOf (finishJob j w s) index =
    if j.limit = some index then inUseOf s index - 1 else inUseOf s index := by
  have lowered (u : State) : inUseOf (lowerInUse j u) index =
      if j.limit = some index then inUseOf u index - 1 else inUseOf u index := by
    unfold lowerInUse
    cases j.limit with
    | none => simp
    | some other =>
      by_cases same : other = index
      · simp [inUseOf, same]
      · simp [inUseOf, same, Fin.val_ne_of_ne same]
  have posted : inUseOf (post (formRecord s j w) s) index = inUseOf s index := congrFun (inUseOf_congr (by simp)) index
  calc inUseOf (finishJob j w s) index
      = inUseOf (lowerInUse j (post (formRecord s j w) s)) index := rfl
    _ = _ := by rw [lowered, posted]

theorem inUseOf_acceptJob (j : Job) (s : State) (index : Fin 64) : inUseOf (acceptJob j s) index =
    if j.limit = some index then inUseOf s index + 1 else inUseOf s index := by
  unfold inUseOf
  rw [acceptJob_limits]
  cases j.limit with
  | none => simp
  | some other =>
    by_cases same : other = index
    · simp [same]
    · simp [same, Fin.val_ne_of_ne same]

/-- The job that ends is one of the users of its entry, and of no other. -/
theorem usersOf_finishJob {s : State} {j : Job} (w : Working) (index : Fin 64) :
    usersOf (finishJob j w s) index = (usersOf s index).erase j.site := by
  ext i
  rw [mem_usersOf, jobAt_finishJob, Finset.mem_erase, mem_usersOf]
  split
  · next there => simp [there]
  · next other => simp [Ne.symm other]

/-- The accepted job becomes one of the users of its entry. -/
theorem usersOf_acceptJob {s : State} {j : Job} (free : jobAt s j.site = none) (index : Fin 64) :
    usersOf (acceptJob j s) index = if j.limit = some index then insert j.site (usersOf s index) else usersOf s index := by
  ext i
  rw [mem_usersOf, jobAt_acceptJob]
  by_cases there : j.site = i
  · subst there
    by_cases named : j.limit = some index <;> simp [named, mem_usersOf, free]
  · rw [if_neg there]
    by_cases named : j.limit = some index
    · rw [if_pos named, Finset.mem_insert, mem_usersOf]
      simp [Ne.symm there]
    · rw [if_neg named, mem_usersOf]

theorem Ledger.inUseCounts {s t : State} (moved : Ledger s t) : Named s ∧ CounterFits s →
    (∀ index, inUseOf s index = (usersOf s index).card) → ∀ index, inUseOf t index = (usersOf t index).card := by
  induction moved with
  | @frame s t same =>
    simp only [ledgerOf, Prod.mk.injEq] at same
    intro _ counts
    rwa [inUseOf_congr same.2.2.1, usersOf_congr (s := s) (t := t) fun i => by rw [jobAt_congr same.1]]
  | trans first _ ih ih' => exact fun named counts => ih' (first.idsDistinct named) (ih named counts)
  | @change s site j j' live sameId sameSite sameLimit =>
    rintro ⟨⟨home, -⟩, -⟩ counts
    rw [usersOf_congr (s := s) fun i => ?_]
    · exact counts
    · rw [jobAt_setJob]
      split
      · next there =>
        rw [← there, home site j live, live]
        exact sameLimit
      · rfl
  | release s =>
    intro _ counts
    rw [usersOf_congr (s := s) fun i => ?_]
    · exact counts
    · rw [jobAt_release]
      cases jobAt s i with
      | none => rfl
      | some j =>
        simp only [Option.map_some, Option.bind_some, releaseHeld]
        split <;> rfl
  | @finish s site j w live =>
    rintro ⟨⟨home, -⟩, -⟩ counts index
    have there : jobAt s j.site = some j := by rw [home site j live]; exact live
    rw [usersOf_finishJob, inUseOf_finishJob, counts index]
    split
    · next named =>
      rw [Finset.card_erase_of_mem]
      rw [mem_usersOf, there]
      exact named
    · next other =>
      rw [Finset.erase_eq_of_notMem]
      rw [mem_usersOf, there]
      exact other
  | @accept f draft s drafted passes =>
    intro _ counts index
    have free : jobAt s draft.site = none := free_of_submissionFault_none passes
    rw [usersOf_acceptJob (j := { draft with id := assignedId s }) free, inUseOf_acceptJob, counts index]
    split
    · next named =>
      rw [Finset.card_insert_of_notMem]
      rw [mem_usersOf]
      simp [free]
    · rfl
  | _ => exact fun _ counts => counts

/-- A part with no live job and no entry in use. -/
theorem inUseCounts_of_empty {s : State} (empty : s.jobs = Vector.replicate 16 none)
    (limits : s.limits = LimitTable.afterReset) (index : Fin 64) : inUseOf s index = (usersOf s index).card := by
  have none (i : Site) : jobAt s i = Option.none := by simp [jobAt, empty]
  have users : usersOf s index = ∅ := by simp [usersOf, none]
  simp [users, inUseOf, limits, LimitTable.afterReset]

/-- The live ids are distinct, and the in-use counts are exact. -/
def CountsExact (s : State) : Prop :=
  (Named s ∧ CounterFits s) ∧ ∀ index, inUseOf s index = (usersOf s index).card

theorem countsExact_iff (s : State) : CountsExact s ↔ IdsDistinct s ∧ InUseExact s := by
  rw [inUseExact_iff, idsDistinct_iff]
  exact ⟨fun ⟨ids, counts⟩ => ⟨ids, ids.1.1, counts⟩, fun ⟨ids, _, counts⟩ => ⟨ids, counts⟩⟩

theorem Block.countsExact (s t : State) (block : Block s t) (holds : CountsExact s) : CountsExact t := by
  refine ⟨block.idsDistinct s t holds.1, ?_⟩
  obtain ⟨l, -, -, rfl⟩ | ⟨tx, detector, low, cause, rfl⟩ | ⟨receiveLine, triggerLine, sample, rfl⟩ | moved := block.ledger
  · exact holds.2
  · exact inUseCounts_of_empty rfl rfl
  · exact inUseCounts_of_empty rfl rfl
  · exact moved.inUseCounts holds.1 holds.2

/-! ### The work of the live jobs (R19, R23, R63, R66, R88, R89) -/

/-- CALIBRATE's entry joins a queue it does not stand in (R39). -/
theorem enqueueCalibration_works {s : State} (works : Works s) {g : Group} {c : ChannelId}
    (notQueued : Entry.calibration c ∉ queueOf s g) : Works (setQueue g (queueOf s g ++ [.calibration c]) s) := by
  refine (works.queueCalibration g c notQueued).of_eq ?_
  rw [viewOf_setQueue]
  simp only [View.mk.injEq, true_and, and_true]
  funext k
  split
  · next there => subst there; rfl
  · rfl

theorem Works.examined {s : State} (works : Works s) (g : Group) : Works (followIdle (examine g s)) := by
  rw [Works, viewOf_followIdle]
  exact examine_fits works

/-- Every block keeps each live job with exactly the work its state says. -/
theorem Block.works {s t : State} (block : Block s t) (works : Works s) (serve : SectionsServe s)
    (counter : CounterFits s) : Works t := by
  cases block with
  | link l s _ _ => exact works
  | trigger x s => exact works
  | notices n s _ => exact works
  | timebase x s _ => exact works
  | gateEnd edges s => exact endGate_fits works serve
  | unlockReport s => exact reportUnlock_fits works serve
  | powerOn receiveLine triggerLine sample s => exact powerOn_fits receiveLine triggerLine sample s
  | reset tx detector low cause s => exact resetBlocks_fits _ s
  | calSettlingEnd g s => exact endCalSettling_fits works
  | code g code s => exact works.of_eq (viewOf_deliverCode g code s).symm
  | codeDensityEnd g s => exact endCodeDensity_fits works serve
  | floorGate g s => exact openFloorGate_fits works
  | floorEdge g code s => exact takeFloorEdge_fits works serve
  | floorTimeout g s => exact expireFloorTimeout_fits works serve
  | floorComputation g s => exact endFloorComputation_fits works serve
  | settlingEnd c s => exact endSettling_fits works
  | edge c code s => exact takeComparatorEdge_fits works serve
  | edgeTimeout c s => exact expireEdgeTimeout_fits works
  | engine e s sameItem => exact works.of_eq (viewOf_setEngine_same sameItem).symm
  | enginePost s => exact enginePost_fits works
  | triggerTaken s => exact takeTrigger_fits works
  | channelConfig c config s _ => exact works.of_eq (viewOf_setSame c { channelOfState s c with config } s rfl rfl rfl rfl).symm
  | invalidate c s _ => exact works
  | calibrate c s notQueued => exact (enqueueCalibration_works works notQueued).examined _
  | limitEntry index e s _ _ => exact works
  | limitExtent extent s _ _ _ => exact works
  | lot lot s => exact works
  | submit f draft s drafted passes =>
    have free := free_of_submissionFault_none passes
    obtain ⟨waits, noChannels, choice⟩ := draftJob_spec drafted
    have accepted : Works (acceptJob { draft with id := assignedId s } s) :=
      acceptJob_fits (j := { draft with id := assignedId s }) works free (assignedId_fresh free counter.1 counter.2) waits
        noChannels choice
    exact accepted.examined _
  | cancel site j s live =>
    have home : j.site = site := works.home site j live
    exact cancelJob_fits works (home ▸ live)
  | resultRead site r s => exact works
  | resultClear site s => exact works

/-- The channels fit, the id counter stands within its range, and the work of the live jobs fits. -/
def WorkInvariant (s : State) : Prop :=
  (linesOf s).Fits ∧ (Named s ∧ CounterFits s) ∧ Works s

theorem workInvariant_iff (s : State) : WorkInvariant s ↔ ChannelsFit s ∧ IdsDistinct s ∧ WorkFits s := by
  unfold WorkInvariant
  rw [channelsFit_iff, idsDistinct_iff, Works, ← fits_iff, ids_iff]
  exact ⟨fun ⟨fits, ids, _, _, work⟩ => ⟨fits, ids, work⟩,
    fun ⟨fits, ids, work⟩ => ⟨fits, ids, ids.1, fits.engaged, work⟩⟩

theorem Block.workInvariant (s t : State) (block : Block s t) : WorkInvariant s → WorkInvariant t := by
  rintro ⟨fits, ids, works⟩
  exact ⟨(block.kept fits).1, block.idsDistinct s t ids,
    block.works works ((channelsFit_iff s).mpr fits).sectionsServe ids.2⟩

/-- Settles O58: a step is a sequence of blocks, and each of the three invariants is kept by every block. -/
theorem stepKeepsJobsAndInUseCounts : Obligations.StepKeepsJobsAndInUseCounts := by
  unfold Obligations.StepKeepsJobsAndInUseCounts
  intro s t next ids
  refine ⟨?_, fun counts => ?_, fun channels work => ?_⟩
  · rw [idsDistinct_iff] at ids ⊢
    exact step_keeps (fun _ _ _ holds => holds) Block.idsDistinct next ids
  · have exact := step_keeps (fun _ _ _ holds => holds) Block.countsExact next ((countsExact_iff s).mpr ⟨ids, counts⟩)
    exact ((countsExact_iff t).mp exact).2
  · have fits := step_keeps (fun _ _ _ holds => holds) Block.workInvariant next
      ((workInvariant_iff s).mpr ⟨channels, ids, work⟩)
    exact ((workInvariant_iff t).mp fits).2.2

end Sys2Proof.Machine
end

section
/-! SUPPORT. The step, the resets and the timebase: what the queue, power-on, the two other resets, the ends of gates and
the timebase's reports leave of the part. -/

namespace Sys2Proof.Machine

/-! ### The step -/

/-- Settles O1. -/
theorem stepTakesTheFrontCommand : Obligations.StepTakesTheFrontCommand :=
  fun _ _ _ => rfl

theorem step_of_none {s : State} (none : s.pending = []) :
    step s = .next (idleEvent (Config.idleEvent s.freeIndex) { s with freeIndex := s.freeIndex + 1 }) := by
  unfold step
  split
  · rfl
  · next some => rw [none] at some; cases some

/-- The events of the part's own clocks leave the queue of commands alone. -/
theorem idleEvent_pending (e : IdleEvent) (s : State) : (idleEvent e s).pending = s.pending :=
  (idleEvent_blocks e s).keep (P := fun t => t.pending = s.pending) (fun _ _ block same => block.pending.trans same) rfl

theorem toDueTick_freeIndex {c : ChannelId} {s t : State} (due : toDueTick c s = some t) : t.freeIndex = s.freeIndex := by
  unfold toDueTick at due
  split at due
  · cases due
  · split at due
    · cases due
      simp
    · cases due

theorem failCapture_freeIndex (c : ChannelId) (ctx : CaptureContext) (status : Ending) (s : State) :
    (failCapture c ctx status s).freeIndex = s.freeIndex := by
  simp [failCapture]

theorem endCalibration_freeIndex (g : Group) (c : ChannelId) (record : CalRecord) (s : State) :
    (endCalibration g c record s).freeIndex = s.freeIndex := by
  simp [endCalibration]

theorem endSettling_freeIndex (c : ChannelId) (s : State) : (endSettling c s).freeIndex = s.freeIndex := by
  unfold endSettling
  split
  · split
    · next t due =>
      rw [← toDueTick_freeIndex due]
      unfold takeSettlingEnd
      split
      · rfl
      · split
        · simp
        · unfold reportSettled
          dsimp only
          (repeat' split) <;> simp
    · rfl
  · rfl

theorem expireEdgeTimeout_freeIndex (c : ChannelId) (s : State) : (expireEdgeTimeout c s).freeIndex = s.freeIndex := by
  unfold expireEdgeTimeout
  split
  · rfl
  · split
    · next t due => rw [failCapture_freeIndex, toDueTick_freeIndex due]
    · rfl

theorem passEvent_freeIndex (g : Group) (s : State) : (passEvent g s).freeIndex = s.freeIndex := by
  unfold passEvent
  split
  · rfl
  · next ctx busy =>
    split
    · unfold endCalSettling
      rw [busy]
      dsimp only
      split
      · split
        · next t due =>
          have same : t.freeIndex = s.freeIndex := toDueTick_freeIndex due
          exact same
        · rfl
      · rfl
    · unfold openFloorGate
      rw [busy]
      dsimp only
      split
      · split
        · next t due =>
          have same : t.freeIndex = s.freeIndex := toDueTick_freeIndex due
          exact same
        · rfl
      · rfl
    · unfold expireFloorTimeout
      rw [busy]
      dsimp only
      split
      · split
        · next t due => rw [endCalibration_freeIndex, toDueTick_freeIndex due]
        · rfl
      · rfl

theorem senseReceiveLine_freeIndex (level : Level) (s : State) : (senseReceiveLine level s).freeIndex = s.freeIndex := by
  unfold senseReceiveLine
  split
  · rfl
  · unfold countLowPeriod
    dsimp only
    split
    · unfold detectBreak
      split <;> rfl
    · rfl

theorem senseTrigger_freeIndex (level : Level) (s : State) : (senseTrigger level s).freeIndex = s.freeIndex := by
  unfold senseTrigger
  split
  · rfl
  · split
    · unfold countPeriod
      split
      · rfl
      · split
        · unfold completeQualification
          dsimp only
          split
          · simp [takeTrigger]
          · rfl
        · rfl
    · rfl

/-- Of the part's own events only a reference loss takes a free value, and it is none of them. -/
theorem idleEvent_freeIndex (e : IdleEvent) (s : State) : (idleEvent e s).freeIndex = s.freeIndex := by
  cases e with
  | referenceEdge => rfl
  | coarseTick =>
    unfold idleEvent idleTick
    dsimp only
    split <;> simp
  | channelDue c =>
    unfold idleEvent idleDue
    dsimp only
    split
    · unfold channelEvent
      split
      · rfl
      · exact endSettling_freeIndex c s
      · exact expireEdgeTimeout_freeIndex c s
      · exact passEvent_freeIndex _ s
    · rfl
  | internalPeriod triggerLine receiveLine =>
    exact (senseReceiveLine_freeIndex receiveLine _).trans (senseTrigger_freeIndex triggerLine s)
  | segmentEnd =>
    unfold idleEvent idleSegment
    dsimp only
    split
    · unfold finishSegments
      (repeat' split) <;> rfl
    · rfl

theorem ticksPass_iff (s : State) (ticks : Nat) :
    TicksPass s ticks ↔ counterRuns s = true ∧ ticksCanPass s ticks = true := by
  simp [TicksPass, counterRuns]

/-- A coarse tick passes when it can (R7). -/
theorem idleTick_of_pass {s : State} (pass : TicksPass s 1) :
    idleTick s = { s with timebase := { s.timebase with coarse := s.timebase.coarse + 1 } } := by
  unfold idleTick
  rw [if_pos pass.2, ticksLater_passTicks pass.1]
  rfl

/-- A tick that passes an event, or that a held counter does not deliver, does nothing (R7, log 4). -/
theorem idleTick_of_not_pass {s : State} (stays : ¬TicksPass s 1) : idleTick s = s := by
  unfold idleTick passTicks
  split
  · next can =>
    rw [if_neg fun runs => stays ((ticksPass_iff s 1).mpr ⟨runs, can⟩)]
  · rfl

/-- An event that falls on the present tick is taken, and otherwise nothing is. -/
theorem idleDue_of_due {c : ChannelId} {s : State} (locked : s.timebase.refState = .locked)
    (due : dueTick s c = some s.timebase.coarse) : idleDue c s = channelEvent c s := by
  simp [idleDue, dueNow, counterRuns, locked, due]

theorem idleDue_of_not_due {c : ChannelId} {s : State}
    (notDue : s.timebase.refState ≠ .locked ∨ dueTick s c ≠ some s.timebase.coarse) : idleDue c s = s := by
  simp only [idleDue, dueNow, counterRuns, Bool.and_eq_true, decide_eq_true_eq]
  exact if_neg fun ⟨locked, due⟩ => notDue.elim (absurd locked) (absurd due)

/-- The timed event of a channel that a section calibrates (R41, R44, R45). -/
theorem dueTick_of_calibrates {s : State} {g : Group} {ctx : SectionContext} (cal : Calibrates s g ctx) :
    dueTick s ctx.channel = if ctx.settled then ctx.deadline else some ctx.settlingEnd := by
  obtain ⟨busy, home, calibrating⟩ := cal
  simp [dueTick, calibrating, home, busy]

theorem channelEvent_of_calibrates {s : State} {g : Group} {ctx : SectionContext} (cal : Calibrates s g ctx) :
    channelEvent ctx.channel s = passEvent g s := by
  obtain ⟨-, home, calibrating⟩ := cal
  unfold channelEvent
  rw [calibrating]
  dsimp only
  rw [home]

theorem passEvent_of_codeDensity {s : State} {g : Group} {ctx : SectionContext} (busy : sectionOf s g = .busy ctx)
    (pass : ctx.pass = .codeDensity) : passEvent g s = endCalSettling g s := by
  simp [passEvent, sectionContext, busy, pass]

theorem passEvent_of_unsettled_floor {s : State} {g : Group} {ctx : SectionContext} (busy : sectionOf s g = .busy ctx)
    (pass : ctx.pass = .floor) (unsettled : ctx.settled = false) : passEvent g s = openFloorGate g s := by
  simp [passEvent, sectionContext, busy, pass, unsettled]

theorem passEvent_of_settled_floor {s : State} {g : Group} {ctx : SectionContext} (busy : sectionOf s g = .busy ctx)
    (pass : ctx.pass = .floor) (settled : ctx.settled = true) : passEvent g s = expireFloorTimeout g s := by
  simp [passEvent, sectionContext, busy, pass, settled]

theorem idleDue_of_settling {c : ChannelId} {ctx : CaptureContext} {s : State} (locked : s.timebase.refState = .locked)
    (settling : (channelOfState s c).state = .settling) (held : (channelOfState s c).context = some ctx)
    (unreported : settlingReported s c = false) (now : ctx.settlingEnd = s.timebase.coarse) :
    idleDue c s = endSettling c s := by
  rw [idleDue_of_due locked (by simp [dueTick, settling, unreported, held, now])]
  unfold channelEvent
  rw [settling]

theorem idleDue_of_capturing {c : ChannelId} {ctx : CaptureContext} {s : State} (locked : s.timebase.refState = .locked)
    (captures : Captures s c ctx) (now : ctx.deadline = some s.timebase.coarse) :
    idleDue c s = expireEdgeTimeout c s := by
  obtain ⟨capturing, held, -⟩ := captures
  rw [idleDue_of_due locked (by simp [dueTick, capturing, held, now])]
  unfold channelEvent
  rw [capturing]

/-- Settles O2: one event after another. -/
theorem stepWithNoCommandFollowsTheFreeValue : Obligations.StepWithNoCommandFollowsTheFreeValue := by
  unfold Obligations.StepWithNoCommandFollowsTheFreeValue
  refine ⟨fun s none => ⟨step_of_none none, fun e => ⟨idleEvent_freeIndex e _, (idleEvent_pending e _).trans none⟩⟩,
    fun s => ⟨rfl, fun pass => ⟨idleTick_of_pass pass, ?_⟩, idleTick_of_not_pass, fun _ _ => rfl⟩,
    fun c s => ⟨idleDue_of_not_due, fun locked => ⟨fun ctx settling held unreported now => ?_, fun ctx captures now => ?_,
      fun g ctx cal at_ => ⟨fun settled now => ⟨fun pass => ?_, fun pass => ?_⟩, fun settled pass now => ?_⟩⟩⟩,
    fun s => ⟨fun item w sp j engine found => ⟨fun more => ?_, fun last => ?_⟩, fun notSpectral => ?_⟩⟩
  · rw [idleEvent, idleTick_of_pass pass]
    simp [BitVec.toNat_add]
  · exact congrArg Host.Outcome.next (idleDue_of_settling locked settling held unreported now).symm
  · exact congrArg Host.Outcome.next (idleDue_of_capturing locked captures now).symm
  · subst at_
    have due : dueTick s ctx.channel = some s.timebase.coarse := by rw [dueTick_of_calibrates cal]; simp [settled, now]
    have event : idleDue ctx.channel s = endCalSettling g s := by
      rw [idleDue_of_due locked due, channelEvent_of_calibrates cal, passEvent_of_codeDensity cal.1 pass]
    exact congrArg Host.Outcome.next event.symm
  · subst at_
    have due : dueTick s ctx.channel = some s.timebase.coarse := by rw [dueTick_of_calibrates cal]; simp [settled, now]
    have event : idleDue ctx.channel s = openFloorGate g s := by
      rw [idleDue_of_due locked due, channelEvent_of_calibrates cal, passEvent_of_unsettled_floor cal.1 pass settled]
    exact congrArg Host.Outcome.next event.symm
  · subst at_
    have due : dueTick s ctx.channel = some s.timebase.coarse := by rw [dueTick_of_calibrates cal]; simp [settled, now]
    have event : idleDue ctx.channel s = expireFloorTimeout g s := by
      rw [idleDue_of_due locked due, channelEvent_of_calibrates cal, passEvent_of_settled_floor cal.1 pass settled]
    exact congrArg Host.Outcome.next event.symm
  · have left : 1 < segmentsLeft s := by simp only [segmentsLeft, engine]; omega
    simp [idleEvent, idleSegment, left, finishSegments, engine, found, setEngine]
  · have left : ¬1 < segmentsLeft s := by simp only [segmentsLeft, engine]; omega
    simp [idleEvent, idleSegment, left]
  · have left : segmentsLeft s = 0 := by
      unfold segmentsLeft
      split
      · next engine => exact absurd engine (notSpectral _ _ _)
      · rfl
    simp [idleEvent, idleSegment, left]

/-! ### The part after a reset -/

/-- The reset state is that of a power-on with the receive line high, the trigger line low and a first sample of 0 (log 9). -/
theorem powerOn_reset : powerOn .high .low (some 0) State.reset = State.reset :=
  rfl

/-- Settles O60: nothing works, nothing is on any list, and the notice unit follows. -/
theorem resetStateMeetsTheInvariants : Obligations.ResetStateMeetsTheInvariants := by
  unfold Obligations.ResetStateMeetsTheInvariants
  have rests := powerOn_rests .high .low (some 0) State.reset
  rw [powerOn_reset] at rests
  have ids := (idsDistinct_iff State.reset).mpr (idsDistinct_of_empty rfl rfl)
  have channels := (channelsFit_iff State.reset).mpr rests.1
  have works : Works State.reset := powerOn_reset ▸ powerOn_fits .high .low (some 0) State.reset
  exact ⟨channels, (lostReferenceStopsWork_iff State.reset).mpr rests.2,
    powerOn_reset ▸ powerOn_followed .high .low (some 0) State.reset, ids,
    ((countsExact_iff State.reset).mp ⟨idsDistinct_of_empty rfl rfl, inUseCounts_of_empty rfl rfl⟩).2,
    (fits_iff.mpr works).2.2, limitsFit_of_reset rfl, completionExact_of_reset rfl, ⟨Nat.zero_le _, Nat.zero_le _⟩,
    rfl, rfl, rfl, rfl, rfl, rfl⟩

/-- Settles O7, table by table. -/
theorem powerOnLeavesTheTableValues : Obligations.PowerOnLeavesTheTableValues := by
  unfold Obligations.PowerOnLeavesTheTableValues
  intro receiveLine triggerLine sample s
  let t := powerOn receiveLine triggerLine sample s
  have channels (c : ChannelId) : channelOfState t c = Channel.afterReset .powerOn := by
    simp [t, channelOfState, powerOn, State.reset]
  have groups (g : Group) : pairOf t g = .idle ∧ sectionOf t g = .free ∧ queueOf t g = [] := by
    cases g <;> exact ⟨rfl, rfl, rfl⟩
  have records (c : ChannelId) : recordOf t c = .uncal := by simp [t, recordOf, powerOn, State.reset]
  have limits (index : Fin 64) : t.limits.entries[index] = none ∧ inUseOf t index = 0 := by
    simp [t, powerOn, State.reset, inUseOf, LimitTable.afterReset]
  have slots (site : Site) : slotAt t site = .empty := by simp [t, slotAt, powerOn, State.reset, Results.afterReset]
  have sampled : t.timebase.sampleTaken = sample.isSome := by cases sample <;> rfl
  have temperature (x : Int) (taken : sample = some x) : t.timebase.temperature = max (-160) (min 600 x) := by
    subst taken
    rfl
  have live : liveJobs t = [] := by rw [liveJobs_eq]; simp [t, jobAt, powerOn, State.reset]
  exact ⟨t, rfl, rfl, rfl, rfl, rfl, rfl, rfl, sampled, temperature, rfl, channels, groups, records, live, rfl, rfl, rfl,
    rfl, rfl, rfl, rfl, limits, rfl, rfl, slots, rfl, rfl, rfl, rfl, rfl, rfl, rfl, rfl, rfl, rfl, rfl, rfl⟩

/-- Settles O8: each of the two events resets every block with the link interface as it leaves it. -/
theorem resetsKeepTimebaseConfigurationAndCalibration :
    Obligations.ResetsKeepTimebaseConfigurationAndCalibration := by
  unfold Obligations.ResetsKeepTimebaseConfigurationAndCalibration
  intro c s caused
  obtain ⟨rfl, armed⟩ | ⟨rfl, reply, f, server, sending⟩ := caused
  · let link := Link.afterReset (cutOff s.link.transmitter) .spent (max s.link.lowPeriods breakPeriods) .linkBreak
    obtain ⟨timebase, channels, records, groups, live, counter, disarmed, polarity, qualification, sensed, items, engine,
      limits, extent, lot, slots, completion, notices, -⟩ := resetBlocks_table link s
    have answer : exec .linkBreak s = .next (resetBlocks link s) := by
      simp [exec, execLinkBreak, detectBreak, armed, link]
    have transmitter : link.transmitter =
        if Instr.linkBreak = .linkBreak ∧ s.link.transmitter ≠ .betweenFrames then .finishingByte else .betweenFrames := by
      show cutOff s.link.transmitter = _
      cases s.link.transmitter <;> simp [cutOff]
    exact ⟨_, answer, timebase, channels, records, groups, live, counter, disarmed, polarity, qualification, sensed, items,
      engine, limits, extent, lot, slots, completion, notices, rfl, rfl, rfl, rfl, transmitter, rfl, rfl, rfl, rfl⟩
  · let link := Link.afterReset .betweenFrames s.link.detector s.link.lowPeriods .resetRequest
    obtain ⟨timebase, channels, records, groups, live, counter, disarmed, polarity, qualification, sensed, items, engine,
      limits, extent, lot, slots, completion, notices, -⟩ := resetBlocks_table link s
    have answer : exec .transmitFrameEnd s = .next (resetBlocks link s) := by
      simp [exec, execTransmitFrameEnd, endTransmission, sending, endServerReply, server, resetRequested, resetBlocks,
        setLink, link]
    exact ⟨_, answer, timebase, channels, records, groups, live, counter, disarmed, polarity, qualification, sensed, items,
      engine, limits, extent, lot, slots, completion, notices, rfl, rfl, rfl, rfl, by simp; rfl, rfl, by simp; rfl,
      by simp; rfl, by simp; rfl⟩

/-! ### The timebase -/

theorem gateInLock_iff (t : Timebase) : gateInLock t = true ↔ t.gateBegan = .lock ∧ t.gateMark = false := by
  simp [gateInLock]

theorem classifyGate_of_inTolerance {edges : Nat} (inTolerance : 99950 ≤ edges ∧ edges ≤ 100050) :
    classifyGate edges = .inTolerance := by
  unfold classifyGate
  rw [if_neg (by omega), if_pos inTolerance]

/-- The reference state and the run after a gate outside LOCKED that is not the fourth in-lock gate in a row (R3). -/
theorem afterGate_of_unlocked {state : RefState} {run edges : Nat} {inLock : Bool} (unlocked : state ≠ .locked)
    (notFourth : ¬(state = .acquiring ∧ run = 3 ∧ (99950 ≤ edges ∧ edges ≤ 100050) ∧ inLock = true)) :
    afterGate state run (classifyGate edges) inLock =
      (if edges = 0 then .absent else if 99950 ≤ edges ∧ edges ≤ 100050 then .acquiring else .outOfRange,
       if (99950 ≤ edges ∧ edges ≤ 100050) ∧ inLock = true then (if state = .acquiring then run + 1 else 1) else 0) := by
  by_cases empty : edges = 0
  · simp [classifyGate, empty, afterGate]
  · by_cases inTolerance : 99950 ≤ edges ∧ edges ≤ 100050
    · rw [classifyGate_of_inTolerance inTolerance]
      cases state with
      | locked => exact absurd rfl unlocked
      | acquiring =>
        have notThree (locks : inLock = true) : run ≠ 3 := fun three => notFourth ⟨rfl, three, inTolerance, locks⟩
        cases inLock <;> simp_all [afterGate]
      | absent => cases inLock <;> simp [afterGate, empty, inTolerance]
      | outOfRange => cases inLock <;> simp [afterGate, empty, inTolerance]
    · simp [classifyGate, empty, inTolerance, afterGate]

/-- A gate that neither takes nor leaves LOCKED. -/
theorem endGate_of_same_lock {edges run : Nat} {next : RefState} {s : State}
    (after : afterGate s.timebase.refState s.timebase.run (classifyGate edges) (gateInLock s.timebase) = (next, run))
    (same : s.timebase.refState = .locked ↔ next = .locked) :
    endGate edges s = { s with timebase := { newGate s.timebase with refState := next, run } } := by
  unfold endGate
  dsimp only
  rw [after]
  dsimp only
  rw [if_neg fun left => left.2 (same.mp left.1), if_neg fun taken => taken.1 (same.mpr taken.2)]

/-- A gate that takes LOCKED. -/
theorem endGate_of_lock {edges run : Nat} {s : State}
    (after : afterGate s.timebase.refState s.timebase.run (classifyGate edges) (gateInLock s.timebase) = (.locked, run))
    (unlocked : s.timebase.refState ≠ .locked) :
    endGate edges s = lockEvent { s with timebase := { newGate s.timebase with refState := .locked, run } } := by
  unfold endGate
  dsimp only
  rw [after]
  dsimp only
  rw [if_neg fun left => unlocked left.1, if_pos ⟨unlocked, rfl⟩]

/-- Settles O9: by the reference state and the run that follow the gate. -/
theorem gateEndMovesTheReferenceState : Obligations.GateEndMovesTheReferenceState := by
  unfold Obligations.GateEndMovesTheReferenceState
  intro edges s
  refine ⟨fun unlocked notFourth => ?_, fun locked inTolerance => ?_⟩
  · rw [← gateInLock_iff] at notFourth
    refine congrArg Host.Outcome.next ((endGate_of_same_lock (afterGate_of_unlocked unlocked notFourth) ?_).trans ?_)
    · simp only [unlocked, false_iff]
      split_ifs <;> simp
    · simp only [gateInLock_iff, newGate]
  · refine congrArg Host.Outcome.next ((endGate_of_same_lock (next := .locked) (run := s.timebase.run) ?_ ?_).trans ?_)
    · rw [classifyGate_of_inTolerance inTolerance, locked]
      rfl
    · simp [locked]
    · simp only [locked, newGate]

/-- Settles O10. -/
theorem fourthInLockGateLocks : Obligations.FourthInLockGateLocks := by
  unfold Obligations.FourthInLockGateLocks
  intro edges s acquiring run began mark low high
  have inLock : gateInLock s.timebase = true := (gateInLock_iff _).mpr ⟨began, mark⟩
  have after : afterGate s.timebase.refState s.timebase.run (classifyGate (s.timebase.gateEdges + edges))
      (gateInLock s.timebase) = (.locked, 0) := by
    rw [classifyGate_of_inTolerance ⟨low, high⟩, acquiring, run, inLock]
    rfl
  exact congrArg Host.Outcome.next (endGate_of_lock after (by simp [acquiring]))

/-- A server that is IDLE takes the head of the hold once the first sample has been taken (R176, R185). -/
theorem serverTakes_of_idle {s : State} {f : Frame} {rest : List Frame} (idle : s.link.server = .idle)
    (hold : s.link.hold = f :: rest) (sampled : s.timebase.sampleTaken = true) :
    serverTakes s = serveFrame f (setLink { s.link with hold := rest } s) := by
  unfold serverTakes
  rw [idle, hold]
  simp [sampled]

theorem serverTakes_of_not_idle {s : State} (busy : s.link.server ≠ .idle ∨ s.link.hold = []) : serverTakes s = s := by
  unfold serverTakes
  split
  · next idle hold => exact absurd hold (by simp_all)
  · rfl

/-- Settles O12. -/
theorem multiplierReportsAndTemperatureSamplesSetTheirReadings :
    Obligations.MultiplierReportsAndTemperatureSamplesSetTheirReadings := by
  unfold Obligations.MultiplierReportsAndTemperatureSamplesSetTheirReadings
  refine ⟨fun s => rfl, fun s unlocked => ?_, fun sample s => ⟨fun busy => ?_, fun f rest idle hold => ?_⟩⟩
  · simp [exec, execMultiplierUnlockReport, reportUnlock, unlocked]
  · exact congrArg Host.Outcome.next (serverTakes_of_not_idle (s := takeSample sample s) busy)
  · exact congrArg Host.Outcome.next (serverTakes_of_idle (s := takeSample sample s) idle hold rfl)

end Sys2Proof.Machine
end

section
/-! SUPPORT. The capture channels: start gates (R21 to R23), edges and the prescaler (R16, R17), timestamps and the period
check (R24, R25), and the ends of a capture (R26 to R30). -/

namespace Sys2Proof.Machine

/-! ### Updates of one channel -/

@[simp] theorem setChannel_setChannel (c : ChannelId) (x y : Channel) (s : State) :
    setChannel c y (setChannel c x s) = setChannel c y s := by
  simp [setChannel]

theorem withBank_withBank (ch : Channel) (b : Fin 2) (x y : Bank) : withBank (withBank ch b x) b y = withBank ch b y := by
  unfold withBank
  split <;> rfl

theorem bankOf_withBank_same (ch : Channel) (b : Fin 2) (x : Bank) : bankOf (withBank ch b x) b = x := by
  rw [bankOf_withBank, if_pos rfl]

/-! ### Start gates (R21 to R23) -/

/-- A channel whose start gate has just opened for a capture, with the edge deadline given (R22). -/
def gatedChannel (ch : Channel) (ctx : CaptureContext) (deadline : Tick) : Channel :=
  { ch with
    state := .capturing, count := 0
    context := some { ctx with nextIndex := -2, previous := none, deadline := some deadline } }

theorem openGate_eq {c : ChannelId} {ctx : CaptureContext} {s : State} (held : (channelOfState s c).context = some ctx) :
    openGate c s = setChannel c (gatedChannel (channelOfState s c) ctx (tickAfter s ctx.timeout)) s := by
  unfold openGate
  dsimp only
  rw [held]
  rfl

/-- The settling end of a channel that has not reported it is taken at its tick (R21). -/
theorem endSettling_eq {c : ChannelId} {ctx : CaptureContext} {s : State} (settling : (channelOfState s c).state = .settling)
    (held : (channelOfState s c).context = some ctx) (unreported : settlingReported s c = false)
    (pass : TicksPass s (ticksUntil s ctx.settlingEnd)) :
    endSettling c s = takeSettlingEnd c (atTick ctx.settlingEnd s) := by
  have due : dueTick s c = some ctx.settlingEnd := by simp [dueTick, settling, unreported, held]
  unfold endSettling
  rw [if_pos settling, toDueTick_eq due pass]

theorem takeSettlingEnd_single {c : ChannelId} {ctx : CaptureContext} {s : State}
    (held : (channelOfState s c).context = some ctx) (mode : ctx.mode = .single) :
    takeSettlingEnd c s = setJobState ctx.job .capturing (openGate c s) := by
  unfold takeSettlingEnd
  rw [held]
  dsimp only
  rw [mode]

theorem takeSettlingEnd_paired {c : ChannelId} {ctx : CaptureContext} {s : State}
    (held : (channelOfState s c).context = some ctx) (mode : ctx.mode = .paired) :
    takeSettlingEnd c s = reportSettled c s := by
  unfold takeSettlingEnd
  rw [held]
  dsimp only
  rw [mode]

/-- The other channel of a channel's group. -/
def otherChannel (c : ChannelId) : ChannelId :=
  if c = lowChannel (groupOfChannel c) then highChannel (groupOfChannel c) else lowChannel (groupOfChannel c)

/-- The first of the two reports (R23). -/
theorem reportSettled_first {c : ChannelId} {job : Nat} {s : State}
    (pair : pairOf s (groupOfChannel c) = .settling job false false) :
    reportSettled c s = setPair (groupOfChannel c)
      (.settling job (decide (c = lowChannel (groupOfChannel c))) (decide (c = highChannel (groupOfChannel c)))) s := by
  unfold reportSettled
  dsimp only
  rw [pair]
  dsimp only
  rw [if_neg]
  · simp
  · simp only [Bool.false_or, Bool.and_eq_true, decide_eq_true_eq]
    exact fun ⟨low, high⟩ => low_ne_high _ (low.symm.trans high)

/-- The second of the two reports (R23). -/
theorem reportSettled_second {c : ChannelId} {job : Nat} {s : State}
    (pair : pairOf s (groupOfChannel c) = .settling job (decide (otherChannel c = lowChannel (groupOfChannel c)))
      (decide (otherChannel c = highChannel (groupOfChannel c)))) :
    reportSettled c s = setJobState job .capturing (setPair (groupOfChannel c) (.capturing job false false)
      (openGate (highChannel (groupOfChannel c)) (openGate (lowChannel (groupOfChannel c)) s))) := by
  unfold reportSettled
  dsimp only
  rw [pair]
  dsimp only
  rw [if_pos]
  unfold otherChannel
  rcases group_two c with low | high
  · simp [← low]
  · have notLow : c ≠ lowChannel (groupOfChannel c) := fun low => low_ne_high _ (low.symm.trans high)
    simp [notLow, ← high]

/-- With one report held, the channel that has not reported is the other one (R23). -/
theorem settlingReported_of_other {c : ChannelId} {job : Nat} {s : State}
    (pair : pairOf s (groupOfChannel c) = .settling job (decide (otherChannel c = lowChannel (groupOfChannel c)))
      (decide (otherChannel c = highChannel (groupOfChannel c)))) : settlingReported s c = false := by
  unfold settlingReported
  rw [pair]
  dsimp only
  unfold otherChannel
  split
  · simp [(low_ne_high _).symm]
  · simp [low_ne_high]

/-- Settles O14: at its settling end a SINGLE channel opens its gate; of a pair the second report opens both. -/
theorem settlingEndOpensTheGate : Obligations.SettlingEndOpensTheGate := by
  unfold Obligations.SettlingEndOpensTheGate
  intro c ctx s settling held pass
  refine ⟨fun single unreported => ?_, fun job paired pair => ?_, fun job x paired pair held' => ?_⟩ <;>
    refine congrArg Host.Outcome.next ?_
  · rw [endSettling_eq settling held unreported pass, takeSettlingEnd_single (s := atTick ctx.settlingEnd s) held single,
      openGate_eq (s := atTick ctx.settlingEnd s) held]
    rfl
  · have unreported : settlingReported s c = false := by simp [settlingReported, pair]
    rw [endSettling_eq settling held unreported pass, takeSettlingEnd_paired (s := atTick ctx.settlingEnd s) held paired]
    exact reportSettled_first (s := atTick ctx.settlingEnd s) pair
  · have unreported : settlingReported s c = false := settlingReported_of_other pair
    rw [endSettling_eq settling held unreported pass, takeSettlingEnd_paired (s := atTick ctx.settlingEnd s) held paired,
      reportSettled_second (s := atTick ctx.settlingEnd s) pair]
    congr 2
    rcases group_two c with low | high
    · have notHigh : c ≠ highChannel (groupOfChannel c) := fun high => low_ne_high _ (low.symm.trans high)
      rw [if_pos low] at held'
      rw [← low, openGate_eq (s := atTick ctx.settlingEnd s) held, openGate_eq (ctx := x)]
      · rw [channelOfState_setChannel_other _ _ _ _ notHigh]
        simp only [if_pos, if_neg notHigh]
        rfl
      · rw [channelOfState_setChannel_other _ _ _ _ notHigh]
        exact held'
    · have notLow : c ≠ lowChannel (groupOfChannel c) := fun low => low_ne_high _ (low.symm.trans high)
      rw [if_neg notLow] at held'
      rw [← high, openGate_eq (s := atTick ctx.settlingEnd s) held', openGate_eq (ctx := ctx)]
      · rw [channelOfState_setChannel_other _ _ _ _ notLow.symm]
        simp only [if_pos, if_neg notLow]
        rfl
      · rw [channelOfState_setChannel_other _ _ _ _ notLow.symm]
        exact held

/-! ### Edges (R16, R17) -/

theorem openContext_of_captures {c : ChannelId} {ctx : CaptureContext} {s : State} (captures : Captures s c ctx) :
    openContext s c = some ctx := by
  obtain ⟨capturing, held, running⟩ := captures
  unfold openContext
  dsimp only
  rw [if_pos capturing, held, Option.filter_some, if_pos running]

/-- A channel that takes no edges for a capture: it is not CAPTURING, or its record is full. -/
theorem openContext_of_not_capturing {c : ChannelId} {s : State} (not : (channelOfState s c).state ≠ .capturing) :
    openContext s c = none := by
  unfold openContext
  dsimp only
  rw [if_neg not]

theorem openContext_of_full {c : ChannelId} {ctx : CaptureContext} {s : State}
    (held : (channelOfState s c).context = some ctx) (full : ctx.deadline = none) : openContext s c = none := by
  unfold openContext
  dsimp only
  split
  · simp [held, full]
  · rfl

theorem edgeAfter_of_pass {c : ChannelId} {ticks : Nat} {code : Byte} {s : State} (pass : TicksPass s ticks) :
    edgeAfter c ticks code s = takeComparatorEdge c code (ticksLater ticks s) := by
  unfold edgeAfter
  rw [if_pos pass.2, ticksLater_passTicks pass.1]

/-- An edge that does not bring the prescaler count to P is counted (R16). -/
theorem takeComparatorEdge_counts {c : ChannelId} {code : Byte} {ctx : CaptureContext} {s : State}
    (captures : Captures s c ctx) (below : (channelOfState s c).count + 1 < (channelOfState s c).ratio) :
    takeComparatorEdge c code s = setChannel c { channelOfState s c with count := (channelOfState s c).count + 1 } s := by
  unfold takeComparatorEdge
  rw [openContext_of_captures captures]
  dsimp only
  rw [if_neg]
  simp only [edgeReachesRatio, decide_eq_true_eq]
  omega

/-- An edge that brings the prescaler count to P is a prescaled edge (R16). -/
theorem takeComparatorEdge_reaches {c : ChannelId} {code : Byte} {ctx : CaptureContext} {s : State}
    (captures : Captures s c ctx) (reaches : (channelOfState s c).ratio ≤ (channelOfState s c).count + 1) :
    takeComparatorEdge c code s = takePrescaledEdge c ctx code s := by
  unfold takeComparatorEdge
  rw [openContext_of_captures captures]
  dsimp only
  rw [if_pos]
  simpa [edgeReachesRatio] using reaches

/-- An edge on a channel that neither captures nor calibrates does nothing (R16, R28). -/
theorem takeComparatorEdge_idle {c : ChannelId} {code : Byte} {s : State} (closed : openContext s c = none)
    (not : (channelOfState s c).state ≠ .calibrating) : takeComparatorEdge c code s = s := by
  unfold takeComparatorEdge
  rw [closed]
  dsimp only
  rw [if_neg fun both => not both.1]

/-- An edge on a CALIBRATING channel passes to its section (R33). -/
theorem takeComparatorEdge_calibrates {g : Group} {code : Byte} {ctx : SectionContext} {s : State}
    (cal : Calibrates s g ctx) :
    takeComparatorEdge ctx.channel code s = takeFloorEdge g code (deliverCode g code s) := by
  obtain ⟨busy, home, calibrating⟩ := cal
  unfold takeComparatorEdge
  rw [openContext_of_not_capturing (by simp [calibrating])]
  dsimp only
  rw [home, if_pos ⟨calibrating, by simp [sectionContext, busy]⟩]

theorem sectionContext_of_busy {g : Group} {ctx : SectionContext} {s : State} (busy : sectionOf s g = .busy ctx) :
    sectionContext s g = some ctx := by
  simp [sectionContext, busy]

/-- The floor pass takes no edge while the code-density pass goes on (R33). -/
theorem takeFloorEdge_of_codeDensity {g : Group} {code : Byte} {ctx : SectionContext} {s : State}
    (busy : sectionOf s g = .busy ctx) (pass : ctx.pass = .codeDensity) : takeFloorEdge g code s = s := by
  unfold takeFloorEdge
  rw [sectionContext_of_busy busy]
  simp [pass]

theorem takeFloorEdge_of_closed {g : Group} {code : Byte} {ctx : SectionContext} {s : State}
    (busy : sectionOf s g = .busy ctx) (closed : ctx.deadline = none) : takeFloorEdge g code s = s := by
  unfold takeFloorEdge
  rw [sectionContext_of_busy busy]
  simp [closed]

/-- A code is a hit, or is not taken (R41). -/
theorem deliverCode_of_takes {g : Group} {code : Byte} {ctx : SectionContext} {s : State}
    (busy : sectionOf s g = .busy ctx) (takes : takesHits ctx = true) :
    deliverCode g code s = setSection g (.busy (withHit ctx code)) s := by
  unfold deliverCode
  rw [sectionContext_of_busy busy]
  dsimp only
  rw [if_pos takes]

theorem deliverCode_of_not_takes {g : Group} {code : Byte} {ctx : SectionContext} {s : State}
    (busy : sectionOf s g = .busy ctx) (not : takesHits ctx = false) : deliverCode g code s = s := by
  unfold deliverCode
  rw [sectionContext_of_busy busy]
  simp [not]

/-- The code-density pass goes on after each code (R41). -/
theorem deliverCode_busy {g : Group} {code : Byte} {ctx : SectionContext} {s : State} (busy : sectionOf s g = .busy ctx) :
    ∃ ctx', sectionOf (deliverCode g code s) g = .busy ctx' ∧ ctx'.pass = ctx.pass := by
  cases takes : takesHits ctx with
  | true =>
    rw [deliverCode_of_takes busy takes]
    exact ⟨withHit ctx code, by simp [sectionOf_setSection], rfl⟩
  | false =>
    rw [deliverCode_of_not_takes busy takes]
    exact ⟨ctx, busy, rfl⟩

/-- A floor edge in the floor pass, its gate open (R44). -/
theorem floorEdgeAfter_of_pass {g : Group} {ticks : Nat} {code : Byte} {ctx : SectionContext} {s : State}
    (pass : TicksPass s ticks) (busy : sectionOf s g = .busy ctx) (floor : ctx.pass = .floor)
    (opened : ctx.deadline.isSome = true) : floorEdgeAfter g ticks code s = takeFloorEdge g code (ticksLater ticks s) := by
  have gate : openFloor g s = some ctx := by
    simp [openFloor, sectionContext_of_busy busy, floor, opened]
  unfold floorEdgeAfter
  rw [gate]
  dsimp only
  rw [if_pos pass.2, ticksLater_passTicks pass.1]

theorem isPrescaledEdge_of_captures {c : ChannelId} {ticks : Nat} {ctx : CaptureContext} {s : State}
    (pass : TicksPass s ticks) (captures : Captures s c ctx)
    (reaches : (channelOfState s c).ratio ≤ (channelOfState s c).count + 1) : isPrescaledEdge c ticks s = true := by
  simp [isPrescaledEdge, pass.2, openContext_of_captures captures, edgeReachesRatio, reaches]

/-- Settles O15: by what the channel does with an edge. -/
theorem comparatorEdgeIsCountedWhileTheGateIsOpen : Obligations.ComparatorEdgeIsCountedWhileTheGateIsOpen := by
  unfold Obligations.ComparatorEdgeIsCountedWhileTheGateIsOpen
  intro c ticks code s pass
  have after : exec (.comparatorEdge c ticks code) s = .next (takeComparatorEdge c code (ticksLater ticks s)) :=
    congrArg Host.Outcome.next (edgeAfter_of_pass pass)
  refine ⟨fun ctx captures below => ?_, fun ctx captures reaches => ?_, fun waits => ?_, fun ctx capturing held full => ?_,
    fun g ctx cal there => ⟨fun density => ?_, fun floor opened => ?_, fun floor closed => ?_⟩⟩
  · exact after.trans (congrArg Host.Outcome.next (takeComparatorEdge_counts (s := ticksLater ticks s) captures below))
  · show _ = Host.Outcome.next (if isPrescaledEdge c ticks s then edgeAfter c ticks code s else s)
    rw [if_pos (isPrescaledEdge_of_captures pass captures reaches)]
    rfl
  · refine after.trans (congrArg Host.Outcome.next (takeComparatorEdge_idle (openContext_of_not_capturing ?_) ?_))
    · show (channelOfState s c).state ≠ .capturing
      rcases waits with idle | settling
      · simp [idle]
      · simp [settling]
    · show (channelOfState s c).state ≠ .calibrating
      rcases waits with idle | settling
      · simp [idle]
      · simp [settling]
  · refine after.trans (congrArg Host.Outcome.next (takeComparatorEdge_idle
      (openContext_of_full (s := ticksLater ticks s) held full) ?_))
    show (channelOfState s c).state ≠ .calibrating
    simp [capturing]
  · subst there
    obtain ⟨ctx', busy, samePass⟩ := deliverCode_busy (code := code) (s := ticksLater ticks s) cal.1
    refine after.trans (congrArg Host.Outcome.next ?_)
    rw [takeComparatorEdge_calibrates (s := ticksLater ticks s) cal,
      takeFloorEdge_of_codeDensity busy (samePass.trans density)]
  · subst there
    refine after.trans (congrArg Host.Outcome.next ?_)
    rw [takeComparatorEdge_calibrates (s := ticksLater ticks s) cal,
      deliverCode_of_not_takes (s := ticksLater ticks s) cal.1 (by simp [takesHits, floor]),
      floorEdgeAfter_of_pass pass cal.1 floor opened]
  · subst there
    refine after.trans (congrArg Host.Outcome.next ?_)
    rw [takeComparatorEdge_calibrates (s := ticksLater ticks s) cal,
      deliverCode_of_not_takes (s := ticksLater ticks s) cal.1 (by simp [takesHits, floor]),
      takeFloorEdge_of_closed (s := ticksLater ticks s) cal.1 closed]

/-! ### Prescaled edges (R17, R24, R25) -/

/-- What a prescaled edge of a capture does: the count returns to 0 and the timestamp is taken (R16, R24). -/
theorem edgeAfter_reaches {c : ChannelId} {ticks : Nat} {code : Byte} {ctx : CaptureContext} {s : State}
    (pass : TicksPass s ticks) (captures : Captures s c ctx)
    (reaches : (channelOfState s c).ratio ≤ (channelOfState s c).count + 1) :
    edgeAfter c ticks code s = takeTimestamp c ctx (channelTimestamp (ticksLater ticks s) c code)
      (setChannel c { channelOfState s c with count := 0 } (ticksLater ticks s)) :=
  (edgeAfter_of_pass pass).trans (takeComparatorEdge_reaches (s := ticksLater ticks s) captures reaches)

theorem exec_prescaledEdge {c : ChannelId} {ticks : Nat} {code : Byte} {ctx : CaptureContext} {s : State}
    (pass : TicksPass s ticks) (captures : Captures s c ctx)
    (reaches : (channelOfState s c).ratio ≤ (channelOfState s c).count + 1) :
    exec (.prescaledEdge c ticks code) s = .next (takeTimestamp c ctx (channelTimestamp (ticksLater ticks s) c code)
      (setChannel c { channelOfState s c with count := 0 } (ticksLater ticks s))) := by
  refine congrArg Host.Outcome.next ?_
  rw [if_pos (isPrescaledEdge_of_captures pass captures reaches)]
  exact edgeAfter_reaches pass captures reaches

theorem intervalPasses_iff (fNom prescale interval : Nat) : intervalPasses fNom prescale interval = true ↔
    1228800000000 * prescale ≤ interval * fNom ∧ interval * fNom ≤ 2048000000000 * prescale := by
  unfold intervalPasses
  rw [Bool.and_eq_true]
  exact and_congr decide_eq_true_iff decide_eq_true_iff

/-- An interval passes exactly within the period window; discard 1 has none (R24, R25). -/
theorem timestampPasses_of {ctx : CaptureContext} {t : Timestamp}
    (within : ∀ previous, ctx.previous = some previous →
      1228800000000 * ctx.prescale ≤ (t - previous).toNat * ctx.fNom ∧
        (t - previous).toNat * ctx.fNom ≤ 2048000000000 * ctx.prescale) : timestampPasses ctx t = true := by
  unfold timestampPasses
  split
  · rfl
  · next previous found => exact (intervalPasses_iff _ _ _).mpr (within previous found)

theorem timestampPasses_of_outside {ctx : CaptureContext} {t previous : Timestamp} (found : ctx.previous = some previous)
    (outside : (t - previous).toNat * ctx.fNom < 1228800000000 * ctx.prescale ∨
      2048000000000 * ctx.prescale < (t - previous).toNat * ctx.fNom) : timestampPasses ctx t = false := by
  unfold timestampPasses
  rw [found]
  dsimp only
  rw [Bool.eq_false_iff, Ne, intervalPasses_iff]
  unfold forwardDifference
  omega

/-- A timestamp kept in a channel just set (R24). -/
theorem storeTimestamp_setChannel (c : ChannelId) (ctx : CaptureContext) (t : Timestamp) (ch : Channel) (s : State) :
    storeTimestamp c ctx t (setChannel c ch s) = setChannel c
      { withBank ch ctx.bank (withTimestamp ctx t (bankOf ch ctx.bank)) with
        context := some (nextContext ctx t (tickAfter s ctx.timeout)) } s := by
  unfold storeTimestamp
  simp only [channelOfState_setChannel_same, setChannel_setChannel]
  rfl

/-- Settles O16. -/
theorem prescaledEdgeExtendsTheRecord : Obligations.PrescaledEdgeExtendsTheRecord := by
  unfold Obligations.PrescaledEdgeExtendsTheRecord
  intro c ticks code ctx s pass captures reaches now t notLast within
  rw [exec_prescaledEdge pass captures reaches]
  have passes : timestampPasses ctx t = true := timestampPasses_of within
  have last : isLastIndex ctx = false := by simpa [isLastIndex] using notLast
  refine congrArg Host.Outcome.next ?_
  show takeTimestamp c ctx t _ = _
  unfold takeTimestamp
  rw [if_pos passes]
  dsimp only
  rw [if_neg (by simp [last]), storeTimestamp_setChannel]
  simp only [nextContext, last, withTimestamp]
  rfl

/-! ### The ends of a capture (R25 to R30) -/

/-- What a stopped capture leaves of its channel (R29, R30). -/
theorem lostChannel_spec {ch : Channel} {ctx : CaptureContext} (held : ch.context = some ctx) :
    (lostChannel ch).state = .idle ∧ (lostChannel ch).context = none ∧ (lostChannel ch).selector = ch.selector ∧
      (lostChannel ch).config = ch.config ∧ bankOf (lostChannel ch) ctx.bank = { state := .free, record := [] } := by
  have bank (x : Channel) : bankOf { x with state := .idle, context := none } ctx.bank = bankOf x ctx.bank := rfl
  rw [lostChannel_of_some held]
  refine ⟨rfl, rfl, ?_, ?_, ?_⟩
  · show (withBank ch ctx.bank .empty).selector = _
    unfold withBank
    split <;> rfl
  · show (withBank ch ctx.bank .empty).config = _
    unfold withBank
    split <;> rfl
  · rw [bank, bankOf_withBank_same]
    rfl

/-- The edge timeout of a capture, at its deadline (R26). -/
theorem expireEdgeTimeout_eq {c : ChannelId} {ctx : CaptureContext} {deadline : Tick} {s : State}
    (captures : Captures s c ctx) (awaited : ctx.deadline = some deadline) (pass : TicksPass s (ticksUntil s deadline)) :
    expireEdgeTimeout c s = failCapture c ctx (.noSignal c) (atTick deadline s) := by
  have due : dueTick s c = some deadline := by simp [dueTick, captures.1, captures.2.1, awaited]
  unfold expireEdgeTimeout
  rw [openContext_of_captures captures, toDueTick_eq due pass]

/-- Settles O17. -/
theorem captureFailuresStopTheCapture : Obligations.CaptureFailuresStopTheCapture := by
  unfold Obligations.CaptureFailuresStopTheCapture
  refine ⟨fun c ticks code ctx previous s pass captures reaches => ?_,
    fun c ctx deadline s captures awaited pass => congrArg Host.Outcome.next (expireEdgeTimeout_eq captures awaited pass),
    fun c ctx mode s held => ?_⟩
  · intro now t found outside
    rw [exec_prescaledEdge pass captures reaches]
    refine congrArg Host.Outcome.next ?_
    show takeTimestamp c ctx t _ = _
    unfold takeTimestamp
    rw [if_neg (by rw [timestampPasses_of_outside found outside]; simp)]
    rfl
  · have stopped : channelOfState (stopCapture c mode s) c = lostChannel (channelOfState s c) := by
      rw [channelOfState_stopCapture, if_pos (.inl rfl)]
    obtain ⟨state, context, selector, config, bank⟩ := lostChannel_spec held
    dsimp only
    rw [stopped]
    refine ⟨state, context, selector, config, bank, fun paired => ?_⟩
    subst paired
    simp [stopCapture, pairOf_setPair]

/-! ### Full records (R24, R27, R28) -/

/-- An edge that ends a record (R27, R28). -/
theorem endsRecord_of {c : ChannelId} {ticks : Nat} {code : Byte} {ctx : CaptureContext} {s : State}
    (pass : TicksPass s ticks) (captures : Captures s c ctx)
    (reaches : (channelOfState s c).ratio ≤ (channelOfState s c).count + 1)
    (last : ctx.nextIndex + 1 = ctx.recordLength)
    (passes : timestampPasses ctx (channelTimestamp (ticksLater ticks s) c code) = true) :
    endsRecord ctx.mode c ticks code s = true := by
  simp [endsRecord, isPrescaledEdge_of_captures pass captures reaches, openContext_of_captures captures, isLastIndex, last,
    ticksLater_passTicks pass.1, passes]

/-- The last timestamp of a record: it is kept, and the record ends (R24). -/
theorem takeTimestamp_last {c : ChannelId} {ctx : CaptureContext} {t : Timestamp} {s : State}
    (passes : timestampPasses ctx t = true) (last : ctx.nextIndex + 1 = ctx.recordLength) :
    takeTimestamp c ctx t s = endRecord c ctx (storeTimestamp c ctx t s) := by
  unfold takeTimestamp
  rw [if_pos passes]
  simp [isLastIndex, last]

/-- What is left of a channel whose bank is handed over FULL with the record given (R27, R28). -/
def handedOver (ch : Channel) (bank : Fin 2) (record : List Timestamp) : Channel :=
  { withBank ch bank { state := .full, record } with state := .idle, context := none }

theorem fillBank_eq (c : ChannelId) (ctx : CaptureContext) (s : State) : fillBank c ctx s =
    setChannel c (handedOver (channelOfState s c) ctx.bank (bankOf (channelOfState s c) ctx.bank).record) s :=
  rfl

/-- A bank just extended is handed over with its record so extended. -/
theorem handedOver_extended (ch : Channel) (b : Fin 2) (x : Bank) (context : Option CaptureContext) :
    handedOver { withBank ch b x with context } b (bankOf { withBank ch b x with context } b).record =
      handedOver ch b x.record := by
  unfold handedOver withBank bankOf
  split <;> rfl

theorem completeSingle_setChannel (c : ChannelId) (ctx : CaptureContext) (ch : Channel) (s : State) :
    completeSingle c ctx (setChannel c ch s) = followIdle (examine (groupOfChannel c)
      (joinAnalysis { job := ctx.job, first := legOf c ctx, second := none }
        (setChannel c (handedOver ch ctx.bank (bankOf ch ctx.bank).record) s))) := by
  unfold completeSingle
  rw [fillBank_eq, channelOfState_setChannel_same, setChannel_setChannel]

/-- Settles O18: the last timestamp is kept, and its bank handed over. -/
theorem recordCompleteHandsTheBankOver : Obligations.RecordCompleteHandsTheBankOver := by
  unfold Obligations.RecordCompleteHandsTheBankOver
  intro c ticks code ctx s pass captures reaches single now t last stored within full
  have passes : timestampPasses ctx (channelTimestamp (ticksLater ticks s) c code) = true := timestampPasses_of within
  have ends : endsRecord .single c ticks code s = true := single ▸ endsRecord_of pass captures reaches last passes
  show Host.Outcome.next (if endsRecord .single c ticks code s then edgeAfter c ticks code s else s) = _
  rw [if_pos ends, edgeAfter_reaches pass captures reaches, takeTimestamp_last passes last, storeTimestamp_setChannel]
  unfold endRecord
  rw [single]
  dsimp only
  rw [completeSingle_setChannel, handedOver_extended]
  simp only [withTimestamp, if_pos stored]
  rfl

/-- The record of a paired channel is full, the other channel's not yet (R28). -/
theorem reportFull_first {c : ChannelId} {job : Nat} {s : State}
    (pair : pairOf s (groupOfChannel c) = .capturing job false false) :
    reportFull c s = setPair (groupOfChannel c)
      (.capturing job (decide (c = lowChannel (groupOfChannel c))) (decide (c = highChannel (groupOfChannel c)))) s := by
  unfold reportFull
  dsimp only
  rw [pair]
  dsimp only
  rw [if_neg]
  · simp
  · simp only [Bool.false_or, Bool.and_eq_true, decide_eq_true_eq]
    exact fun ⟨low, high⟩ => low_ne_high _ (low.symm.trans high)

/-- Both records of a pair are full (R28). -/
theorem reportFull_second {c : ChannelId} {job : Nat} {low high : CaptureContext} {s : State}
    (pair : pairOf s (groupOfChannel c) = .capturing job (decide (otherChannel c = lowChannel (groupOfChannel c)))
      (decide (otherChannel c = highChannel (groupOfChannel c))))
    (lowHeld : (channelOfState s (lowChannel (groupOfChannel c))).context = some low)
    (highHeld : (channelOfState s (highChannel (groupOfChannel c))).context = some high) :
    reportFull c s = completePair (groupOfChannel c) low high s := by
  unfold reportFull
  dsimp only
  rw [pair]
  dsimp only
  rw [if_pos, lowHeld, highHeld]
  unfold otherChannel
  rcases group_two c with low | high
  · simp [← low]
  · have notLow : c ≠ lowChannel (groupOfChannel c) := fun low => low_ne_high _ (low.symm.trans high)
    simp [notLow, ← high]

/-- Settles O19: the last timestamp is kept, its edge timeout stopped, and the record reported full. -/
theorem pairRecordFullCompletesThePair : Obligations.PairRecordFullCompletesThePair := by
  unfold Obligations.PairRecordFullCompletesThePair
  intro c ticks code ctx job s pass captures reaches paired g other now t last stored within bank waiting keptIn filled
  have passes : timestampPasses ctx (channelTimestamp (ticksLater ticks s) c code) = true := timestampPasses_of within
  have ends : endsRecord .paired c ticks code s = true := paired ▸ endsRecord_of pass captures reaches last passes
  have kept : storeTimestamp c ctx (channelTimestamp (ticksLater ticks s) c code)
      (setChannel c { channelOfState s c with count := 0 } (ticksLater ticks s)) = keptIn := by
    have isLast : isLastIndex ctx = true := by simp [isLastIndex, last]
    rw [storeTimestamp_setChannel]
    simp only [withTimestamp, if_pos stored, nextContext, isLast, if_true]
    rfl
  have answer : exec (.pairRecordFull c ticks code) s = .next (reportFull c keptIn) := by
    show Host.Outcome.next (if endsRecord .paired c ticks code s then edgeAfter c ticks code s else s) = _
    rw [if_pos ends, edgeAfter_reaches pass captures reaches, takeTimestamp_last passes last, kept]
    unfold endRecord
    rw [paired]
  rw [answer]
  refine ⟨fun pair => congrArg Host.Outcome.next (reportFull_first (s := keptIn) pair), fun low high pair lowHeld highHeld => ?_⟩
  exact congrArg Host.Outcome.next (reportFull_second (s := keptIn) pair lowHeld highHeld)

end Sys2Proof.Machine
end

section
/-! SUPPORT. The calibration unit: CALIBRATE and CAL_READ (R39, R53), the code-density pass (R41), the floor pass (R44, R45)
and the floor computation (R46 to R49). -/

namespace Sys2Proof.Machine

/-! ### CALIBRATE (R39) -/

theorem calibrationQueued_iff (s : State) (c : ChannelId) :
    calibrationQueued s c = true ↔ Entry.calibration c ∈ queueOf s (groupOfChannel c) := by
  simp [calibrationQueued]

theorem serveCalibrate_of_waiting {s : State} {c : ChannelId}
    (waits : Entry.calibration c ∈ queueOf s (groupOfChannel c) ∨ recordOf s c = .running) :
    serveCalibrate (channelCode c) s = (okReply [byteOfBool true, calStateCode (recordOf s c)], s) := by
  have adds : (calibrationQueued s c || decide (recordOf s c = .running)) = true := by
    simpa [calibrationQueued_iff] using waits
  simp only [serveCalibrate, channelOf_channelCode, adds, if_true]

theorem serveCalibrate_of_new {s : State} {c : ChannelId}
    (notQueued : Entry.calibration c ∉ queueOf s (groupOfChannel c)) (notRunning : recordOf s c ≠ .running) :
    serveCalibrate (channelCode c) s = (okReply [byteOfBool false, calStateCode (recordOf s c)],
      followIdle (examine (groupOfChannel c)
        (setQueue (groupOfChannel c) (queueOf s (groupOfChannel c) ++ [.calibration c]) s))) := by
  have adds : ¬(calibrationQueued s c || decide (recordOf s c = .running)) = true := by
    simp [calibrationQueued_iff, notQueued, notRunning]
  simp only [serveCalibrate, channelOf_channelCode, if_neg adds]

theorem serveCalibrate_of_bad_channel {channel : Byte} (s : State) (bad : 4 ≤ channel.toNat) :
    serveCalibrate channel s = (badField 1, s) := by
  simp only [serveCalibrate, (channelOf_eq_none_iff channel).mpr bad]

/-- The owner of CALIBRATE neither reads nor writes the receiver. -/
theorem serveCalibrate_setReceiver (channel : Byte) (r : Receiver) (s : State) :
    serveCalibrate channel (setReceiver r s) =
      ((serveCalibrate channel s).1, setReceiver r (serveCalibrate channel s).2) := by
  have enqueue (c : ChannelId) : IgnoresLink fun s => followIdle (examine (groupOfChannel c)
      (setQueue (groupOfChannel c) (queueOf s (groupOfChannel c) ++ [.calibration c]) s)) :=
    followIdle_ignoresLink.comp ((examine_ignoresLink _).comp fun _ _ => rfl)
  have sameQueued (c : ChannelId) : calibrationQueued (setReceiver r s) c = calibrationQueued s c := rfl
  have sameRecord (c : ChannelId) : recordOf (setReceiver r s) c = recordOf s c := rfl
  unfold serveCalibrate
  cases channelOf channel with
  | none => rfl
  | some c =>
    dsimp only
    rw [sameQueued, sameRecord]
    split
    · rfl
    · exact Prod.ext rfl ((enqueue c).setReceiver (fun s => by simp) r s)

theorem exec_calibrate_answers {s : State} (tag channel : Byte) (ready : Ready s) :
    exec (.calibrate tag channel) s =
      .next (answered 0x84 tag (serveCalibrate channel s).1 (serveCalibrate channel s).2) := by
  have readsBack : readRequest 0x04 (requestPayload (.calibrate channel)) = some (.calibrate channel) := by
    simp [readRequest, readShort, requestPayload]
  exact congrArg Host.Outcome.next (receiveFrame_answers (tag := tag) ready readsBack (by simp [requestPayload]) (by simp)
    (serveCalibrate_setReceiver channel .hunt s))

/-! ### CAL_READ (R53, section 11.8) -/

/-- The pass byte of a CAL_READ reply, when a pass is in progress (section 11.8). -/
def passBytes : Option Pass → List Byte
  | some .codeDensity => [0]
  | some .floor => [1]
  | none => []

theorem passBytes_eq (pass : Option Pass) : passBytes pass = (pass.map passCode).toList := by
  rcases pass with _ | pass
  · rfl
  · cases pass <;> rfl

/-- The conditions byte and the bytes around the record's fields of a CAL_READ reply (section 11.8). -/
theorem serveCalRead_eq (s : State) (c : ChannelId) : serveCalRead (channelCode c) s =
    (okReply ([channelCode c, calStateCode (recordOf s c), calMask (recordOf s c) (passOn s c).isSome,
        byteOfBits (isStale s.timebase.temperature (recordOf s c)) (calibrationQueued s c) (passOn s c).isSome
          false false false false false]
      ++ bytes16OfInt s.timebase.temperature ++ calFieldBytes (recordOf s c) ++ passBytes (passOn s c)), s) := by
  rw [passBytes_eq]
  simp only [serveCalRead, channelOf_channelCode]
  cases passOn s c <;> rfl

theorem serveCalRead_of_bad_channel {channel : Byte} (s : State) (bad : 4 ≤ channel.toNat) :
    serveCalRead channel s = (badField 1, s) := by
  simp only [serveCalRead, (channelOf_eq_none_iff channel).mpr bad]

/-- CAL_READ changes nothing, and does not read the receiver. -/
theorem serveCalRead_setReceiver (channel : Byte) (r : Receiver) (s : State) :
    serveCalRead channel (setReceiver r s) = ((serveCalRead channel s).1, setReceiver r s) := by
  unfold serveCalRead
  cases channelOf channel <;> rfl

theorem exec_calRead_answers {s : State} (tag channel : Byte) (ready : Ready s) :
    exec (.calRead tag channel) s = .next (answered 0x85 tag (serveCalRead channel s).1 s) := by
  have readsBack : readRequest 0x05 (requestPayload (.calRead channel)) = some (.calRead channel) := by
    simp [readRequest, readShort, requestPayload]
  exact congrArg Host.Outcome.next (receiveFrame_answers (tag := tag) ready readsBack (by simp [requestPayload]) (by simp)
    (serveCalRead_setReceiver channel .hunt s))

/-- Bit 5 of a byte given by its bits. -/
theorem byteOfBits_bit5 (b0 b1 b2 b3 b4 b5 b6 b7 : Bool) : byteOfBits b0 b1 b2 b3 b4 b5 b6 b7 =
    byteOfBits b0 b1 b2 b3 b4 false b6 b7 ||| (if b5 then 0x20 else 0) := by
  revert b0 b1 b2 b3 b4 b5 b6 b7
  decide +kernel

/-- The presence mask is that of the record's fields, with bit 5 for the pass in progress (section 11.8). -/
theorem calMask_eq (record : CalRecord) (busy : Bool) :
    calMask record busy = calMask record false ||| (if busy then 0x20 else 0) := by
  cases record with
  | uncal => exact byteOfBits_bit5 ..
  | running => exact byteOfBits_bit5 ..
  | valid temperature low high table floor => exact byteOfBits_bit5 ..
  | failed cause span floor => exact byteOfBits_bit5 ..

/-- The reply of CAL_READ with the mask of the record's own fields, the STALE condition and the fields left open. -/
theorem exec_calRead_eq {s : State} {c : ChannelId} {mask : Byte} {stale : Bool} {fields : List Byte} (tag : Byte)
    (ready : Ready s) (mask_eq : calMask (recordOf s c) false = mask)
    (stale_eq : isStale s.timebase.temperature (recordOf s c) = stale) (fields_eq : calFieldBytes (recordOf s c) = fields) :
    exec (.calRead tag (channelCode c)) s = .next (answered 0x85 tag
      ([0x00, channelCode c, calStateCode (recordOf s c), mask ||| (if (passOn s c).isSome then 0x20 else 0),
        byteOfBits stale ((queueOf s (groupOfChannel c)).any fun e => decide (e = .calibration c)) (passOn s c).isSome
          false false false false false] ++ bytes16OfInt s.timebase.temperature ++ fields ++
      passBytes (passOn s c)) s) := by
  rw [exec_calRead_answers tag _ ready, serveCalRead_eq, calMask_eq, mask_eq, stale_eq, fields_eq]
  rfl

/-- Settles O20: the server is ready, so the replies are those of the requests' owners. -/
theorem calibrateAndCalReadAnswer : Obligations.CalibrateAndCalReadAnswer := by
  unfold Obligations.CalibrateAndCalReadAnswer
  refine ⟨⟨fun tag c s ready => ⟨fun waits => ?_, fun notQueued notRunning => ?_⟩, fun tag channel s ready bad => ?_⟩,
    fun tag c s ready => ⟨fun empty => ?_, fun temperature low high table floor valid => ?_, fun cause span floor failed => ?_⟩,
    fun tag channel s ready bad => ?_⟩
  · rw [exec_calibrate_answers _ _ ready, serveCalibrate_of_waiting waits]
    rfl
  · rw [exec_calibrate_answers _ _ ready, serveCalibrate_of_new notQueued notRunning]
    rfl
  · rw [exec_calibrate_answers _ _ ready, serveCalibrate_of_bad_channel s bad]
    rfl
  · rcases empty with uncal | running
    · exact exec_calRead_eq tag ready (by rw [uncal]; rfl) (by rw [uncal]; rfl) (by rw [uncal]; rfl)
    · exact exec_calRead_eq tag ready (by rw [running]; rfl) (by rw [running]; rfl) (by rw [running]; rfl)
  · exact exec_calRead_eq tag ready (by rw [valid]; rfl) (by rw [valid]; rfl) (by rw [valid]; rfl)
  · exact exec_calRead_eq tag ready (by rw [failed]; rfl) (by rw [failed]; rfl) (by rw [failed]; rfl)
  · rw [exec_calRead_answers _ _ ready, serveCalRead_of_bad_channel s bad]
    rfl

/-! ### The code-density pass (R41) -/

/-- A calibration's settling end, at its tick (R41, R44). -/
theorem toDueTick_of_unsettled {s : State} {g : Group} {ctx : SectionContext} (cal : Calibrates s g ctx)
    (unsettled : ctx.settled = false) (pass : TicksPass s (ticksUntil s ctx.settlingEnd)) :
    toDueTick ctx.channel s = some (atTick ctx.settlingEnd s) :=
  toDueTick_eq (by rw [dueTick_of_calibrates cal]; simp [unsettled]) pass

theorem endCalSettling_eq {s : State} {g : Group} {ctx : SectionContext} (cal : Calibrates s g ctx)
    (density : ctx.pass = .codeDensity) (unsettled : ctx.settled = false)
    (pass : TicksPass s (ticksUntil s ctx.settlingEnd)) :
    endCalSettling g s = setSection g (.busy { ctx with settled := true }) (atTick ctx.settlingEnd s) := by
  unfold endCalSettling
  rw [sectionContext_of_busy cal.1]
  dsimp only
  rw [if_pos ⟨density, unsettled⟩, toDueTick_of_unsettled cal unsettled pass]

theorem nextHitFills_eq {s : State} {g : Group} {ctx : SectionContext} (busy : sectionOf s g = .busy ctx) :
    nextHitFills g s = (takesHits ctx && decide (ctx.hits + 1 = histogramSize)) := by
  simp [nextHitFills, sectionContext_of_busy busy]

/-- Settles O21. -/
theorem codeDensityPassCountsHits : Obligations.CodeDensityPassCountsHits := by
  unfold Obligations.CodeDensityPassCountsHits
  refine ⟨fun g ctx s cal density unsettled pass => congrArg Host.Outcome.next (endCalSettling_eq cal density unsettled pass),
    fun g code ctx s busy density => ⟨fun settled more => ?_, fun settled last => ?_, fun not => ?_⟩⟩
  · have takes : takesHits ctx = true := by simp [takesHits, density, settled, histogramSize, more]
    exact congrArg Host.Outcome.next (deliverCode_of_takes busy takes)
  · have takes : takesHits ctx = true := by simp [takesHits, density, settled, histogramSize, last]
    have fills : nextHitFills g s = true := by simp [nextHitFills_eq busy, takes, histogramSize, last]
    exact congrArg Host.Outcome.next ((if_pos fills).trans (deliverCode_of_takes busy takes))
  · have takes : takesHits ctx = false := by
      rcases not with unsettled | full
      · simp [takesHits, unsettled]
      · simp [takesHits, full, histogramSize]
    have fills : ¬nextHitFills g s = true := by simp [nextHitFills_eq busy, takes]
    exact ⟨congrArg Host.Outcome.next (deliverCode_of_not_takes busy takes), congrArg Host.Outcome.next (if_neg fills)⟩

/-! ### The floor pass (R44, R45) -/

theorem openFloorGate_eq {s : State} {g : Group} {ctx : SectionContext} (cal : Calibrates s g ctx)
    (floor : ctx.pass = .floor) (unsettled : ctx.settled = false) (pass : TicksPass s (ticksUntil s ctx.settlingEnd)) :
    openFloorGate g s = setChannel ctx.channel { channelOfState s ctx.channel with count := 0 }
      (setSection g (.busy { ctx with
        settled := true, nextIndex := -2, previous := none, deadline := some (ctx.settlingEnd + 160) })
        (atTick ctx.settlingEnd s)) := by
  unfold openFloorGate
  rw [sectionContext_of_busy cal.1]
  dsimp only
  rw [if_pos ⟨floor, unsettled⟩, toDueTick_of_unsettled cal unsettled pass]
  rfl

theorem floorIntervalPasses_of {ctx : SectionContext} {t : Timestamp} (within : ∀ previous, ctx.previous = some previous →
    1228800000000 ≤ (t - previous).toNat * 10000000 ∧ (t - previous).toNat * 10000000 ≤ 2048000000000) :
    floorIntervalPasses ctx t = true := by
  unfold floorIntervalPasses
  split
  · rfl
  · next previous found =>
    rw [intervalPasses_iff]
    simpa [forwardDifference] using within previous found

theorem floorIntervalPasses_of_outside {ctx : SectionContext} {t previous : Timestamp} (found : ctx.previous = some previous)
    (outside : (t - previous).toNat * 10000000 < 1228800000000 ∨ 2048000000000 < (t - previous).toNat * 10000000) :
    floorIntervalPasses ctx t = false := by
  unfold floorIntervalPasses
  rw [found]
  dsimp only
  rw [Bool.eq_false_iff, Ne, intervalPasses_iff]
  unfold forwardDifference
  omega

/-- A floor timestamp that passes its check is kept, and one that does not fails the calibration (R44, R45). -/
theorem takeFloorEdge_eq {s : State} {g : Group} {ctx : SectionContext} (code : Byte) (busy : sectionOf s g = .busy ctx)
    (floor : ctx.pass = .floor) (opened : ctx.deadline.isSome = true) :
    takeFloorEdge g code s =
      if floorIntervalPasses ctx (timestampOf s ctx.table code) then
        setSection g (.busy (withFloorTimestamp ctx (timestampOf s ctx.table code) (tickAfter s floorTimeout))) s
      else endCalibration g ctx.channel (floorFailure ctx .edgeFault none) s := by
  unfold takeFloorEdge
  rw [sectionContext_of_busy busy]
  dsimp only
  rw [if_pos ⟨floor, opened⟩]

theorem endsFloorRecord_of {s : State} {g : Group} {ctx : SectionContext} {ticks : Nat} {code : Byte}
    (pass : TicksPass s ticks) (busy : sectionOf s g = .busy ctx) (floor : ctx.pass = .floor)
    (opened : ctx.deadline.isSome = true) (last : ctx.nextIndex + 1 = 65536)
    (passes : floorIntervalPasses ctx (timestampOf (ticksLater ticks s) ctx.table code) = true) :
    endsFloorRecord g ticks code s = true := by
  have gate : openFloor g s = some ctx := by simp [openFloor, sectionContext_of_busy busy, floor, opened]
  unfold endsFloorRecord
  rw [gate, ticksLater_passTicks pass.1]
  dsimp only
  rw [passes, Bool.and_true]
  exact decide_eq_true last

/-- Settles O24: the gate opens at the settling end, and each edge that passes its check is kept. -/
theorem floorPassTakesTimestamps : Obligations.FloorPassTakesTimestamps := by
  unfold Obligations.FloorPassTakesTimestamps
  refine ⟨fun g ctx s cal floor unsettled pass => congrArg Host.Outcome.next (openFloorGate_eq cal floor unsettled pass), ?_⟩
  intro g ticks code ctx s pass busy floor opened now t within taken
  have passes : floorIntervalPasses ctx (timestampOf (ticksLater ticks s) ctx.table code) = true :=
    floorIntervalPasses_of within
  have edge : floorEdgeAfter g ticks code s =
      setSection g (.busy (withFloorTimestamp ctx t (now + 160))) (ticksLater ticks s) := by
    rw [floorEdgeAfter_of_pass pass busy floor opened,
      takeFloorEdge_eq (s := ticksLater ticks s) code busy floor opened, if_pos passes]
    rfl
  constructor
  · intro notLast
    refine congrArg Host.Outcome.next (edge.trans ?_)
    have stays : ¬ctx.nextIndex + 1 = (floorRecordLength : Int) := notLast
    simp only [withFloorTimestamp, if_neg stays]
    rfl
  · intro last
    refine congrArg Host.Outcome.next ((if_pos (endsFloorRecord_of pass busy floor opened last passes)).trans (edge.trans ?_))
    have ends : ctx.nextIndex + 1 = (floorRecordLength : Int) := last
    simp only [withFloorTimestamp, if_pos ends]
    rfl

/-- The floor pass's edge timeout, at its deadline (R45). -/
theorem expireFloorTimeout_eq {s : State} {g : Group} {ctx : SectionContext} {deadline : Tick} (cal : Calibrates s g ctx)
    (floor : ctx.pass = .floor) (settled : ctx.settled = true) (awaited : ctx.deadline = some deadline)
    (pass : TicksPass s (ticksUntil s deadline)) :
    expireFloorTimeout g s = endCalibration g ctx.channel (floorFailure ctx .noSignal none) (atTick deadline s) := by
  have due : dueTick s ctx.channel = some deadline := by rw [dueTick_of_calibrates cal]; simp [settled, awaited]
  unfold expireFloorTimeout
  rw [sectionContext_of_busy cal.1]
  dsimp only
  rw [if_pos ⟨floor, by simp [awaited]⟩, toDueTick_eq due pass]

/-- Settles O25. -/
theorem floorPassFailuresEndTheCalibration : Obligations.FloorPassFailuresEndTheCalibration := by
  unfold Obligations.FloorPassFailuresEndTheCalibration
  intro g ctx s busy floor c failed
  constructor
  · intro ticks code previous pass opened found now t outside
    have fails : ¬floorIntervalPasses ctx (timestampOf (ticksLater ticks s) ctx.table code) = true := by
      exact Bool.eq_false_iff.mp (floorIntervalPasses_of_outside found outside)
    refine congrArg Host.Outcome.next ?_
    rw [floorEdgeAfter_of_pass pass busy floor opened,
      takeFloorEdge_eq (s := ticksLater ticks s) code busy floor opened, if_neg fails]
    rfl
  · intro deadline cal settled awaited pass
    exact congrArg Host.Outcome.next (expireFloorTimeout_eq cal floor settled awaited pass)

/-! ### Whole square roots -/

/-- The search bit by bit ends where the test holds last, when it holds at its start and fails at its bound. -/
theorem greatestFrom_spec {holds : Nat → Bool} {bits r : Nat} (start : holds r = true)
    (bound : holds (r + 2 ^ bits) = false) :
    holds (greatestFrom holds bits r) = true ∧ holds (greatestFrom holds bits r + 1) = false := by
  induction bits generalizing r with
  | zero => exact ⟨start, bound⟩
  | succ bits ih =>
    unfold greatestFrom
    split
    · next half =>
      refine ih half ?_
      rw [Nat.add_assoc, ← Nat.two_mul, ← Nat.pow_succ']
      exact bound
    · next half => exact ih start (by simpa using half)

theorem wholeRoot_eq_sqrt (n : Nat) : wholeRoot n = Nat.sqrt n := by
  have bound : n < (0 + 2 ^ (Nat.log2 n / 2 + 1)) * (0 + 2 ^ (Nat.log2 n / 2 + 1)) :=
    calc n < 2 ^ (Nat.log2 n + 1) := Nat.lt_log2_self
      _ ≤ 2 ^ ((Nat.log2 n / 2 + 1) + (Nat.log2 n / 2 + 1)) := Nat.pow_le_pow_right (by decide) (by omega)
      _ = _ := by rw [Nat.pow_add, Nat.zero_add]
  obtain ⟨below, above⟩ := greatestFrom_spec (holds := fun r => decide (r * r ≤ n)) (r := 0) (by simp)
    (decide_eq_false (Nat.not_le.mpr bound))
  exact Nat.eq_sqrt.mpr ⟨of_decide_eq_true below, Nat.not_le.mp (of_decide_eq_false above)⟩

/-- The rounded root is the nearest integer to the root of the quotient, ties up (Conventions). -/
theorem rootRounded_nearest (num : Nat) {den : Nat} (pos : 0 < den) :
    (rootRounded num den : ℝ) - 1 / 2 ≤ Real.sqrt (num / den) ∧ Real.sqrt (num / den) < rootRounded num den + 1 / 2 := by
  have den_pos : (0 : ℝ) < den := by exact_mod_cast pos
  let k := Nat.sqrt (4 * num / den)
  have quotient_nonneg : (0 : ℝ) ≤ num / den := by positivity
  have twice : Real.sqrt (4 * (num / den)) = 2 * Real.sqrt (num / den) := by
    rw [Real.sqrt_mul (by norm_num), show (4 : ℝ) = 2 ^ 2 by norm_num, Real.sqrt_sq (by norm_num)]
  have below : (k : ℝ) ≤ 2 * Real.sqrt (num / den) := by
    rw [← twice]
    refine Real.le_sqrt_of_sq_le ?_
    have whole : k * k * den ≤ 4 * num :=
      (Nat.mul_le_mul_right den (Nat.sqrt_le _)).trans (Nat.div_mul_le_self _ _)
    rw [← mul_div_assoc, le_div_iff₀ den_pos, sq]
    exact_mod_cast whole
  have above : 2 * Real.sqrt (num / den) < k + 1 := by
    rw [← twice]
    refine (Real.sqrt_lt' (by positivity)).mpr ?_
    have whole : 4 * num < (k + 1) * (k + 1) * den := (Nat.div_lt_iff_lt_mul pos).mp (Nat.sqrt_lt'.mp (by
      exact Nat.sqrt_lt'.mpr (by rw [sq]; exact Nat.lt_succ_sqrt _)) |>.trans_eq (sq _))
    rw [← mul_div_assoc, div_lt_iff₀ den_pos, sq]
    exact_mod_cast whole
  have rounded : rootRounded num den = (k + 1) / 2 := by rw [rootRounded, wholeRoot_eq_sqrt]
  rw [rounded]
  rcases Nat.even_or_odd' k with ⟨m, even | odd⟩
  · have half : (k + 1) / 2 = m := by omega
    have k_eq : (k : ℝ) = 2 * m := by exact_mod_cast even
    rw [half]
    constructor <;> linarith
  · have half : (k + 1) / 2 = m + 1 := by omega
    have k_eq : (k : ℝ) = 2 * m + 1 := by exact_mod_cast odd
    rw [half]
    push_cast
    constructor <;> linarith

/-! ### The floor computation (R46 to R49) -/

theorem sumSquares_eq (l : List Int) : sumSquares l = ∑ k ∈ Finset.range l.length, (l.getD k 0) ^ 2 := by
  rw [sumSquares, sumInt_eq_sum, sum_eq_sum_range_getD, List.length_map]
  refine Finset.sum_congr rfl fun k mem => ?_
  have inside : k < l.length := Finset.mem_range.mp mem
  simp [inside, sq]

theorem sumSquares_nonneg (l : List Int) : 0 ≤ sumSquares l := by
  rw [sumSquares_eq]
  exact Finset.sum_nonneg fun _ _ => sq_nonneg _

/-- The sum of squares as a real number, its cast to a natural number losing nothing. -/
theorem sumSquares_toNat_cast (l : List Int) :
    ((sumSquares l).toNat : ℝ) = ∑ k ∈ Finset.range l.length, (l.getD k 0 : ℝ) ^ 2 := by
  have whole : (((sumSquares l).toNat : Int) : ℝ) = (sumSquares l : ℝ) := by
    rw [Int.toNat_of_nonneg (sumSquares_nonneg l)]
  rw [Int.cast_natCast] at whole
  rw [whole, sumSquares_eq]
  push_cast
  rfl

theorem endFloorComputation_eq {s : State} {g : Group} {ctx : SectionContext} (busy : sectionOf s g = .busy ctx)
    (floor : ctx.pass = .floor) (full : ctx.timestamps.length = 65536) :
    endFloorComputation g s = endCalibration g ctx.channel (floorOutcome ctx s.timebase.temperature) s := by
  unfold endFloorComputation
  rw [sectionContext_of_busy busy]
  dsimp only
  rw [if_pos ⟨floor, full⟩]

/-- Settles O26: σ_f is the rounded root of the mean square of the TIE. -/
theorem floorComputationDecidesTheRecord : Obligations.FloorComputationDecidesTheRecord := by
  unfold Obligations.FloorComputationDecidesTheRecord
  intro g ctx s busy floor full c root
  have nearest := rootRounded_nearest (sumSquares (tieOf ctx.timestamps)).toNat (den := 65536) (by norm_num)
  rw [sumSquares_toNat_cast, tieOf_length, full] at nearest
  have sigma_eq : floorSigma ctx.timestamps = rootRounded (sumSquares (tieOf ctx.timestamps)).toNat 65536 := by
    rw [floorSigma, full]
  exact ⟨rootRounded (sumSquares (tieOf ctx.timestamps)).toNat 65536, nearest.1, nearest.2,
    congrArg Host.Outcome.next ((endFloorComputation_eq busy floor full).trans (by rw [floorOutcome, sigma_eq]; rfl))⟩

end Sys2Proof.Machine
end

section
/-! SUPPORT. The dispatchers (R20, R68 to R74) and the trigger (R75, R81 to R83, R87). -/

namespace Sys2Proof.Machine

/-! ### The examination of a queue (R68) -/

theorem queueOf_dispatchJob (g h : Group) (j : Job) (cs : List ChannelId) (rest : List Entry) (s : State) :
    queueOf (dispatchJob g j cs rest s) h = if g = h then rest else queueOf s h := by
  have folded (t : State) : queueOf (cs.foldl (takeDispatch j) t) h = queueOf t h := by
    rw [foldDispatch_outside]
    rfl
  have queued : queueOf (setJob j.site (some { j with channels := cs, state := .settling }) (setQueue g rest s)) h =
      if g = h then rest else queueOf s h := queueOf_setQueue g h rest s
  unfold dispatchJob
  dsimp only
  split
  · exact (folded _).trans queued
  · exact (folded _).trans queued

/-- A dispatch takes the entry at the head, and leaves the other group's queue. -/
theorem queueOf_of_examineHead {g : Group} {s t : State} (dispatched : examineHead g s = some t) :
    (∃ e, queueOf s g = e :: queueOf t g) ∧ ∀ h, h ≠ g → queueOf t h = queueOf s h := by
  obtain ⟨c, rest, queue, -, rfl⟩ | ⟨id, site, rest, j, cs, queue, -, -, -, rfl⟩ := examineHead_cases dispatched
  · have there (h : Group) : queueOf (dispatchCalibration g c rest s) h = if g = h then rest else queueOf s h :=
      queueOf_setQueue g h rest s
    exact ⟨⟨.calibration c, by rw [queue, there, if_pos rfl]⟩, fun h other => by rw [there, if_neg (Ne.symm other)]⟩
  · exact ⟨⟨.job id site, by rw [queue, queueOf_dispatchJob, if_pos rfl]⟩,
      fun h other => by rw [queueOf_dispatchJob, if_neg (Ne.symm other)]⟩

theorem examineHead_of_empty {g : Group} {s : State} (empty : queueOf s g = []) : examineHead g s = none := by
  unfold examineHead
  rw [empty]

/-- So many dispatches as the queue has entries leave an empty queue or a head that waits. -/
theorem examineHead_examineTimes {g : Group} {n : Nat} {s : State} (enough : (queueOf s g).length ≤ n) :
    examineHead g (examineTimes g n s) = none := by
  induction n generalizing s with
  | zero => exact examineHead_of_empty (List.length_eq_zero_iff.mp (Nat.le_zero.mp enough))
  | succ n ih =>
    unfold examineTimes
    split
    · next t dispatched =>
      obtain ⟨⟨e, queue⟩, -⟩ := queueOf_of_examineHead dispatched
      refine ih ?_
      rw [queue, List.length_cons] at enough
      omega
    · next waits => exact waits

theorem examineHead_examine (g : Group) (s : State) : examineHead g (examine g s) = none :=
  examineHead_examineTimes le_rfl

theorem queueOf_examine_suffix (g : Group) (s : State) : queueOf (examine g s) g <:+ queueOf s g :=
  examine_preserves (P := fun t => queueOf t g <:+ queueOf s g)
    (fun t u kept dispatched => by
      obtain ⟨⟨e, queue⟩, -⟩ := queueOf_of_examineHead dispatched
      exact (queue ▸ List.suffix_cons e (queueOf u g)).trans kept) List.suffix_rfl

theorem queueOf_examine_other {g h : Group} (other : h ≠ g) (s : State) : queueOf (examine g s) h = queueOf s h :=
  examine_preserves (P := fun t => queueOf t h = queueOf s h)
    (fun _ _ kept dispatched => ((queueOf_of_examineHead dispatched).2 h other).trans kept) rfl

/-! ### Calibration entries (R40, R72) -/

theorem calibrationCanRun_iff (s : State) (g : Group) (c : ChannelId) : calibrationCanRun s g c = true ↔
    (channelOfState s c).state = .idle ∧ s.timebase.refState = .locked ∧ sectionOf s g = .free := by
  simp [calibrationCanRun, counterRuns, and_assoc]

theorem examineHead_of_calibration {g : Group} {c : ChannelId} {rest : List Entry} {s : State}
    (queue : queueOf s g = .calibration c :: rest) :
    examineHead g s = if calibrationCanRun s g c then some (dispatchCalibration g c rest s) else none := by
  unfold examineHead
  rw [queue]

/-- Settles O27: a dispatch takes the head, and the examination makes as many as there are entries. -/
theorem dispatchersExamineTheirHeads : Obligations.DispatchersExamineTheirHeads := by
  unfold Obligations.DispatchersExamineTheirHeads
  refine ⟨fun g h s => ⟨examineHead_examine g s, queueOf_examine_suffix g s, fun other => queueOf_examine_other other s,
    by simp, by simp, by simp⟩, fun g c rest s queue => ⟨fun waits => ?_, fun runs => ?_⟩⟩
  · rw [← calibrationCanRun_iff] at waits
    exact examine_of_waits (by rw [examineHead_of_calibration queue, if_neg waits])
  · rw [← calibrationCanRun_iff] at runs
    rw [examineHead_of_calibration queue, if_pos runs]
    rfl

/-! ### The choice of channels (R69 to R71) -/

/-- A channel has a FREE bank, or two (R69, R70). -/
theorem freeBanks_pos_iff (ch : Channel) : 0 < freeBanks ch ↔ ch.bank0.state = .free ∨ ch.bank1.state = .free := by
  unfold freeBanks
  split_ifs <;> simp_all

theorem freeBanks_eq_two_iff (ch : Channel) : freeBanks ch = 2 ↔ ch.bank0.state = .free ∧ ch.bank1.state = .free := by
  unfold freeBanks
  split_ifs <;> simp_all

theorem freeBanks_le_two (ch : Channel) : freeBanks ch ≤ 2 := by
  unfold freeBanks
  split_ifs <;> simp

theorem qualifies_eq (s : State) (c : ChannelId) : qualifies s c =
    (decide ((channelOfState s c).state = .idle) && isValid (recordOf s c) &&
      (decide ((channelOfState s c).bank0.state = .free) || decide ((channelOfState s c).bank1.state = .free)) &&
      decide (s.timebase.refState = .locked)) := by
  have free : decide (0 < freeBanks (channelOfState s c)) =
      (decide ((channelOfState s c).bank0.state = .free) || decide ((channelOfState s c).bank1.state = .free)) := by
    rw [← Bool.decide_or]
    exact decide_eq_decide.mpr (freeBanks_pos_iff _)
  unfold qualifies counterRuns
  rw [free]

theorem freeBanks_pos_of_qualifies {s : State} {c : ChannelId} (fit : qualifies s c = true) :
    0 < freeBanks (channelOfState s c) := by
  simp only [qualifies, Bool.and_eq_true, decide_eq_true_eq] at fit
  exact fit.1.2

/-- Of two channels that qualify the higher is preferred exactly when it alone has two FREE banks (R70). -/
theorem anyChannel_of_both {s : State} {g : Group} (low : qualifies s (lowChannel g) = true)
    (high : qualifies s (highChannel g) = true) : anyChannel s g = some
      (if (decide ((channelOfState s (highChannel g)).bank0.state = .free) &&
            decide ((channelOfState s (highChannel g)).bank1.state = .free)) &&
          !(decide ((channelOfState s (lowChannel g)).bank0.state = .free) &&
            decide ((channelOfState s (lowChannel g)).bank1.state = .free)) then highChannel g else lowChannel g) := by
  have more : decide (freeBanks (channelOfState s (lowChannel g)) < freeBanks (channelOfState s (highChannel g))) =
      ((decide ((channelOfState s (highChannel g)).bank0.state = .free) &&
          decide ((channelOfState s (highChannel g)).bank1.state = .free)) &&
        !(decide ((channelOfState s (lowChannel g)).bank0.state = .free) &&
          decide ((channelOfState s (lowChannel g)).bank1.state = .free))) := by
    rw [Bool.eq_iff_iff]
    simp only [Bool.and_eq_true, Bool.not_eq_true', decide_eq_true_eq, ← Bool.decide_and, decide_eq_false_iff_not,
      ← freeBanks_eq_two_iff]
    have := freeBanks_pos_of_qualifies low
    have := freeBanks_pos_of_qualifies high
    have := freeBanks_le_two (channelOfState s (lowChannel g))
    have := freeBanks_le_two (channelOfState s (highChannel g))
    omega
  unfold anyChannel
  rw [if_pos low, high, Bool.true_and, more]
  split <;> rfl

theorem channelsFor_of_paired {s : State} {g : Group} {j : Job} (queued : j.state = .queued) (paired : j.mode = .paired) :
    channelsFor s g j =
      if qualifies s (lowChannel g) && qualifies s (highChannel g) then some [lowChannel g, highChannel g] else none := by
  simp [channelsFor, queued, paired]

theorem channelsFor_of_named {s : State} {g : Group} {j : Job} {c : ChannelId} (queued : j.state = .queued)
    (single : j.mode = .single) (choice : j.choice = some c) :
    channelsFor s g j = if qualifies s c then some [c] else none := by
  simp [channelsFor, queued, single, choice]

theorem channelsFor_of_any {s : State} {g : Group} {j : Job} (queued : j.state = .queued) (single : j.mode = .single)
    (any : j.choice = none) : channelsFor s g j = (anyChannel s g).map fun c => [c] := by
  simp [channelsFor, queued, single, any]

theorem examineHead_of_job {g : Group} {j : Job} {rest : List Entry} {s : State}
    (queue : queueOf s g = .job j.id j.site :: rest) (live : jobAt s j.site = some j) :
    examineHead g s = (channelsFor s g j).map fun cs => dispatchJob g j cs rest s := by
  unfold examineHead
  rw [queue]
  dsimp only
  rw [live]
  dsimp only
  rw [if_pos rfl]

/-- Settles O28: by the job's mode and its choice. -/
theorem channelChoiceFollowsTheRules : Obligations.ChannelChoiceFollowsTheRules := by
  unfold Obligations.ChannelChoiceFollowsTheRules
  intro g j s
  simp only [← qualifies_eq]
  refine ⟨fun notQueued => if_pos notQueued, fun queued => ⟨fun paired => ?_, fun c single choice => ?_, fun single any => ?_⟩,
    fun rest queue live none => ?_⟩
  · exact channelsFor_of_paired queued paired
  · exact channelsFor_of_named queued single choice
  · rw [channelsFor_of_any queued single any]
    by_cases low : qualifies s (lowChannel g) = true
    · by_cases high : qualifies s (highChannel g) = true
      · have both : (qualifies s (lowChannel g) && qualifies s (highChannel g)) = true := by rw [low, high]; rfl
        rw [anyChannel_of_both low high, if_pos both]
        rfl
      · simp [anyChannel, low, high]
    · by_cases high : qualifies s (highChannel g) = true
      · simp [anyChannel, low, high]
      · simp [anyChannel, low, high]
  · exact examine_of_waits (by rw [examineHead_of_job queue live, none]; rfl)

/-! ### Dispatch (R20, R73) -/

theorem dispatchJob_of_single {g : Group} {j : Job} {cs : List ChannelId} {rest : List Entry} {s : State}
    (single : j.mode = .single) : dispatchJob g j cs rest s =
      cs.foldl (takeDispatch j) (setJob j.site (some { j with channels := cs, state := .settling }) (setQueue g rest s)) := by
  unfold dispatchJob
  dsimp only
  split
  · next paired => rw [single] at paired; cases paired
  · rfl

theorem dispatchJob_of_paired {g : Group} {j : Job} {cs : List ChannelId} {rest : List Entry} {s : State}
    (paired : j.mode = .paired) : dispatchJob g j cs rest s = setPair g (.settling j.id false false)
      (cs.foldl (takeDispatch j) (setJob j.site (some { j with channels := cs, state := .settling }) (setQueue g rest s))) := by
  unfold dispatchJob
  dsimp only
  split
  · rfl
  · next single => rw [paired] at single; cases single

/-- A dispatch reads the timebase, the calibration record and the channel alone. -/
theorem takeDispatch_congr {s t : State} {j : Job} {c : ChannelId} (channel : channelOfState t c = channelOfState s c)
    (records : t.records = s.records) (timebase : t.timebase = s.timebase) :
    takeDispatch j t c = setChannel c (channelOfState (takeDispatch j s c) c) t := by
  simp only [takeDispatch, contextFor, snapshotOf, recordOf, tickAfter, channel, records, timebase,
    channelOfState_setChannel_same]

/-- Settles O29: the second channel of a pair is as it was before the first took its dispatch. -/
theorem dispatchTakesTheChannels : Obligations.DispatchTakesTheChannels := by
  unfold Obligations.DispatchTakesTheChannels
  intro g j rest s queue live length context taken dispatched
  have taken_eq (c : ChannelId) : channelOfState (takeDispatch j s c) c = taken c := channelOfState_setChannel_same ..
  have first (cs : List ChannelId) (c : ChannelId) :
      takeDispatch j (dispatched cs) c = setChannel c (taken c) (dispatched cs) := by
    rw [takeDispatch_congr (s := s) (t := dispatched cs) rfl rfl rfl, taken_eq]
  have second (cs : List ChannelId) (c d : ChannelId) (x : Channel) (other : c ≠ d) :
      takeDispatch j (setChannel c x (dispatched cs)) d = setChannel d (taken d) (setChannel c x (dispatched cs)) := by
    rw [takeDispatch_congr (s := s) (t := setChannel c x (dispatched cs)) (channelOfState_setChannel_other _ _ _ _ other)
      rfl rfl, taken_eq]
  refine ⟨fun c single chosen => ?_, fun low high paired chosen other => ?_⟩
  · rw [examineHead_of_job queue live, chosen, Option.map_some, dispatchJob_of_single single, List.foldl_cons,
      List.foldl_nil]
    exact congrArg some (first [c] c)
  · rw [examineHead_of_job queue live, chosen, Option.map_some, dispatchJob_of_paired paired, List.foldl_cons,
      List.foldl_cons, List.foldl_nil]
    refine congrArg (fun t => some (setPair g (.settling j.id false false) t)) ?_
    exact (congrArg (takeDispatch j · high) (first [low, high] low)).trans (second [low, high] low high (taken low) other)

/-! ### The trigger (R75, R81 to R83, R87) -/

theorem triggerLineChange_of_new {level : Level} {s : State} (sensed : s.trigger.sensed = true)
    (new : level ≠ s.trigger.lineLevel) : triggerLineChange level s = changeLevel level s := by
  unfold triggerLineChange senseTrigger
  rw [if_neg fun same => new same.2, sensed, if_neg new]
  rfl

theorem senseTrigger_of_same {s : State} (sensed : s.trigger.sensed = true) :
    senseTrigger s.trigger.lineLevel s = countPeriod s := by
  unfold senseTrigger
  rw [sensed, if_pos rfl]
  rfl

theorem changeLevel_eq (level : Level) (s : State) : changeLevel level s = { s with trigger :=
    { s.trigger with
      lineLevel := level
      qualification := if level = (if s.trigger.polarity = .rising then .high else .low) then some 0 else none } } := by
  unfold changeLevel
  cases s.trigger.polarity <;> rfl

theorem triggerLineChange_of_unsensed {s : State} (level : Level) (unsensed : s.trigger.sensed = false) :
    triggerLineChange level s = senseFirst level s := by
  simp [triggerLineChange, senseTrigger, unsensed]

theorem qualifiedEdge_of_qualifying {s : State} (qualifying : s.trigger.qualification.isSome = true) :
    qualifiedEdge s = completeQualification s := by
  obtain ⟨n, some⟩ := Option.isSome_iff_exists.mp qualifying
  unfold qualifiedEdge
  rw [some]

theorem completeQualification_of_disarmed {s : State} (disarmed : s.trigger.state = .disarmed) :
    completeQualification s = { s with trigger := { s.trigger with qualification := none } } := by
  unfold completeQualification
  dsimp only
  split
  · next armed => rw [disarmed] at armed; cases armed
  · rfl

theorem completeQualification_of_armed {s : State} (armed : s.trigger.state = .armed) :
    completeQualification s = takeTrigger { s with trigger := { s.trigger with qualification := none } } := by
  unfold completeQualification
  dsimp only
  split
  · rfl
  · next disarmed => rw [armed] at disarmed; cases disarmed

/-- A period boundary that the qualification counts (R81). -/
theorem countPeriod_eq {s : State} {n : Nat} (qualifying : s.trigger.qualification = some n) :
    countPeriod s = if n + 1 = 25 then completeQualification s
      else { s with trigger := { s.trigger with qualification := some (n + 1) } } := by
  unfold countPeriod
  split
  · next none => rw [qualifying] at none; cases none
  · next m some =>
    rw [qualifying] at some
    cases some
    rfl

/-- Settles O30: by what the filter senses, and by the trigger state that a completed qualification finds. -/
theorem triggerQualifiesAndReleasesHeldJobs : Obligations.TriggerQualifiesAndReleasesHeldJobs := by
  unfold Obligations.TriggerQualifiesAndReleasesHeldJobs
  refine ⟨fun level s => ⟨fun sensed new => ?_, fun sensed same => ?_, fun unsensed => ?_⟩,
    fun s qualifying disarmed => ?_, fun s qualifying armed => ?_, fun n s sensed qualifying => ⟨fun more => ?_, fun last => ?_⟩⟩
  · exact congrArg Host.Outcome.next ((triggerLineChange_of_new sensed new).trans (changeLevel_eq level s))
  · exact congrArg Host.Outcome.next (if_pos ⟨sensed, same⟩)
  · exact congrArg Host.Outcome.next (triggerLineChange_of_unsensed level unsensed)
  · exact congrArg Host.Outcome.next
      ((qualifiedEdge_of_qualifying qualifying).trans (completeQualification_of_disarmed disarmed))
  · exact congrArg Host.Outcome.next ((qualifiedEdge_of_qualifying qualifying).trans (completeQualification_of_armed armed))
  · rw [senseTrigger_of_same sensed, countPeriod_eq qualifying, if_neg more]
  · rw [senseTrigger_of_same sensed, countPeriod_eq qualifying, if_pos last]
    exact congrArg Host.Outcome.next (qualifiedEdge_of_qualifying (by simp [qualifying]))

end Sys2Proof.Machine
end

section
/-! SUPPORT. Request payloads and the check field (R171, R172, R187), and the requests of the job block: JOB_CANCEL (R78) and
the record that an ending posts (R65, R154 to R157). -/

namespace Sys2Proof.Machine

/-! ### Payloads and the check field -/

/-- Settles O4: the two long layouts read back by the laws of the encoding, the others byte by byte. -/
theorem requestPayloadsReadBack : Obligations.RequestPayloadsReadBack := by
  unfold Obligations.RequestPayloadsReadBack
  intro r wellFormed
  cases r with
  | jobSubmit f => exact congrArg (Option.map Request.jobSubmit) (readJob_written f (wellFormed f rfl))
  | limitWrite f => exact congrArg (Option.map Request.limitWrite) (readLimit_written f)
  | channelConfig channel threshold termination edge =>
    simp [readRequest, requestKind, requestPayload, bytes16, word16_bytes]
  | limitProbe index spectral bands spots fNom => simp [readRequest, requestKind, requestPayload, bytes32, word32_bytes]
  | lotOpen lot => simp [readRequest, requestKind, requestPayload, bytes32, word32_bytes]
  | _ => rfl

/-- A word with one bit turned is another word. -/
theorem xor_twoPow_ne (x : BitVec 16) (i : Fin 16) : x ^^^ BitVec.twoPow 16 i ≠ x := by
  intro same
  have bit := congrArg (·.getLsbD i) same
  simp at bit

theorem checkHolds_iff (f : Frame) : checkHolds f = true ↔ f.check = crc (coveredBytes f.kind f.tag f.payload) :=
  decide_eq_true_iff

theorem makeFrame_check (kind tag : Byte) (payload : List Byte) :
    (makeFrame kind tag payload).check = crc (coveredBytes kind tag payload) := by
  simp only [makeFrame]

theorem checkHolds_turned (kind tag : Byte) (payload : List Byte) (i : Fin 16) : checkHolds
    { makeFrame kind tag payload with check := (makeFrame kind tag payload).check ^^^ BitVec.twoPow 16 i } = false := by
  refine Bool.eq_false_iff.mpr fun holds => xor_twoPow_ne (makeFrame kind tag payload).check i ?_
  rw [checkHolds_iff] at holds
  exact holds.trans (makeFrame_check kind tag payload).symm

/-- Settles O5. -/
theorem checkFieldIsTheCrc : Obligations.CheckFieldIsTheCrc := by
  unfold Obligations.CheckFieldIsTheCrc
  exact ⟨Tests.test_crc, fun kind tag payload => ⟨checkHolds_makeFrame kind tag payload, checkHolds_turned kind tag payload⟩⟩

/-! ### JOB_CANCEL (R78) -/

theorem removeEntry_ignoresLink (j : Job) : IgnoresLink (removeEntry j) := fun _ _ => rfl

theorem dropItem_ignoresLink (id : Nat) : IgnoresLink (dropItem id) := by
  intro l s
  unfold dropItem
  rw [setLink_analysisQueue]
  split
  · rfl
  · exact freeItemBanks_ignoresLink _ l { s with analysisQueue := _ }

theorem abandonItem_ignoresLink : IgnoresLink abandonItem := by
  intro l s
  unfold abandonItem
  rw [setLink_engine]
  split
  · rfl
  · exact freeItemBanks_ignoresLink _ l (setEngine .idle s)

theorem stopJobCapture_ignoresLink (j : Job) : IgnoresLink (stopJobCapture j) := by
  intro l s
  unfold stopJobCapture
  split
  · rfl
  · exact stopCapture_ignoresLink _ _ l s

theorem cancelWork_ignoresLink (j : Job) : IgnoresLink (cancelWork j) := by
  intro l s
  unfold cancelWork
  split
  · exact removeEntry_ignoresLink j l s
  · exact removeEntry_ignoresLink j l s
  · exact stopJobCapture_ignoresLink j l s
  · exact stopJobCapture_ignoresLink j l s
  · exact dropItem_ignoresLink _ l s
  · exact (takeItem_ignoresLink.comp abandonItem_ignoresLink) l s

theorem cancelJob_ignoresLink (j : Job) : IgnoresLink (cancelJob j) :=
  followIdle_ignoresLink.comp ((examine_ignoresLink _).comp ((endJob_ignoresLink _ _).comp (cancelWork_ignoresLink j)))

theorem cancelWork_link (j : Job) (s : State) : (cancelWork j s).link = s.link := by
  unfold cancelWork stopJobCapture removeEntry
  (repeat' split) <;> simp

theorem cancelJob_link (j : Job) (s : State) : (cancelJob j s).link = s.link := by
  simp [cancelJob, cancelWork_link]

theorem serveJobCancel_of_bad_site {site : Byte} (s : State) (bad : 16 ≤ site.toNat) :
    serveJobCancel site s = (badField 1, s) := by
  simp only [serveJobCancel, (siteOf_eq_none_iff site).mpr bad]

theorem serveJobCancel_of_no_job {site : Site} {s : State} (noJob : jobAt s site = none) :
    serveJobCancel (siteCode site) s = (refusal .noJob, s) := by
  simp only [serveJobCancel, siteOf_siteCode, noJob]

theorem serveJobCancel_of_live_job {site : Site} {s : State} {j : Job} (live : jobAt s site = some j) :
    serveJobCancel (siteCode site) s = (okReply (bytes16OfNat j.id ++ [jobStateCode j.state]), cancelJob j s) := by
  simp only [serveJobCancel, siteOf_siteCode, live]

/-- The owner of JOB_CANCEL neither reads nor writes the receiver. -/
theorem serveJobCancel_setReceiver (site : Byte) (r : Receiver) (s : State) :
    serveJobCancel site (setReceiver r s) = ((serveJobCancel site s).1, setReceiver r (serveJobCancel site s).2) := by
  have sameJob (i : Site) : jobAt (setReceiver r s) i = jobAt s i := rfl
  unfold serveJobCancel
  cases siteOf site with
  | none => rfl
  | some i =>
    dsimp only
    rw [sameJob]
    cases jobAt s i with
    | none => rfl
    | some j => exact Prod.ext rfl ((cancelJob_ignoresLink j).setReceiver (cancelJob_link j) r s)

theorem exec_jobCancel_answers {s : State} (tag site : Byte) (ready : Ready s) :
    exec (.jobCancel tag site) s =
      .next (answered 0x8E tag (serveJobCancel site s).1 (serveJobCancel site s).2) := by
  have readsBack : readRequest 0x0E (requestPayload (.jobCancel site)) = some (.jobCancel site) := by
    simp [readRequest, readShort, requestPayload]
  exact congrArg Host.Outcome.next (receiveFrame_answers (tag := tag) ready readsBack (by simp [requestPayload]) (by simp)
    (serveJobCancel_setReceiver site .hunt s))

/-- A cancelled job answers its id and the state found, once its work has stopped (R78). -/
theorem exec_jobCancel_of_live_job {s stopped : State} {site : Site} {j : Job} (tag : Byte) (ready : Ready s)
    (live : jobAt s site = some j) (home : j.site = site) (stops : cancelWork j s = stopped) :
    exec (.jobCancel tag (siteCode site)) s = .next (answered 0x8E tag
      ([0x00] ++ bytes16OfNat j.id ++ [jobStateCode j.state])
      (followIdle (examine (groupOfSite site) (endJob j.id .cancelled stopped)))) := by
  rw [exec_jobCancel_answers _ _ ready, serveJobCancel_of_live_job live, ← stops, ← home]
  rfl

theorem filter_ne_of_once {α : Type} [DecidableEq α] {x : α} {before after : List α} (once : x ∉ before ++ after) :
    (before ++ x :: after).filter (fun y => decide (y ≠ x)) = before ++ after := by
  have kept : (before ++ after).filter (fun y => decide (y ≠ x)) = before ++ after :=
    List.filter_eq_self.mpr fun y mem => decide_eq_true fun same => once (same ▸ mem)
  rw [List.filter_append, List.filter_cons_of_neg (by simp), ← List.filter_append, kept]

theorem removeEntry_of_once {s : State} {j : Job} {before after : List Entry}
    (queue : queueOf s (groupOfSite j.site) = before ++ .job j.id j.site :: after)
    (once : Entry.job j.id j.site ∉ before ++ after) :
    removeEntry j s = setQueue (groupOfSite j.site) (before ++ after) s := by
  unfold removeEntry
  dsimp only
  rw [queue, filter_ne_of_once once]

/-- The item of a job in ANALYSIS_WAIT leaves the queue, and its banks are FREE (R90, R94). -/
theorem dropItem_of_once {s : State} {id : Nat} {before after : List Item} {item : Item}
    (queue : s.analysisQueue = before ++ item :: after) (own : item.job = id)
    (once : ∀ other ∈ before ++ after, other.job ≠ id) :
    dropItem id s = freeItemBanks item { s with analysisQueue := before ++ after } := by
  have missed : before.find? (fun other => other.job == id) = none :=
    List.find?_eq_none.mpr fun other mem => by simpa using once other (List.mem_append_left _ mem)
  have found : s.analysisQueue.find? (fun other => other.job == id) = some item := by
    rw [queue, List.find?_append, missed]
    simp [own]
  have others : (before ++ after).filter (fun other => other.job != id) = before ++ after :=
    List.filter_eq_self.mpr fun other mem => by simpa using once other mem
  have left : s.analysisQueue.filter (fun other => other.job != id) = before ++ after := by
    rw [queue, List.filter_append, List.filter_cons_of_neg (by simp [own]), ← List.filter_append, others]
  unfold dropItem
  rw [found, left]

/-- Settles O35: the server is ready, so the replies are those of the request's owner; the work stops by the job's state. -/
theorem jobCancelStopsTheWork : Obligations.JobCancelStopsTheWork := by
  unfold Obligations.JobCancelStopsTheWork
  refine ⟨fun tag site s ready bad => ?_, fun tag site s ready => ⟨fun noJob => ?_, fun j live home =>
    ⟨fun before after waits queue once => ?_, fun c rest works channels => ?_, fun before item after waits queue own once => ?_,
      fun item analysing engine => ?_⟩⟩⟩
  · rw [exec_jobCancel_answers _ _ ready, serveJobCancel_of_bad_site s bad]
    rfl
  · rw [exec_jobCancel_answers _ _ ready, serveJobCancel_of_no_job noJob]
    rfl
  all_goals refine exec_jobCancel_of_live_job tag ready live home ?_
  · subst home
    unfold cancelWork
    rcases waits with held | queued
    · rw [held]
      exact removeEntry_of_once queue once
    · rw [queued]
      exact removeEntry_of_once queue once
  · have stops : stopJobCapture j s = stopCapture c j.mode s := by
      unfold stopJobCapture
      rw [channels]
    unfold cancelWork
    rcases works with settling | capturing
    · rw [settling]
      exact stops
    · rw [capturing]
      exact stops
  · unfold cancelWork
    rw [waits]
    exact dropItem_of_once queue own once
  · unfold cancelWork
    rw [analysing]
    unfold abandonItem
    dsimp only
    rw [engine]
    rfl

/-! ### The record an ending posts (R65, R154 to R157) -/

/-- The endings that the job block brings about itself have no figures to compare (R147). -/
theorem not_figuresCompared {status : Ending} (own : status = .refLost ∨ status = .cancelled ∨ (∃ c, status = .noSignal c) ∨
    ∃ index c, status = .edgeFault index c) : figuresCompared status = false := by
  rcases own with rfl | rfl | ⟨c, rfl⟩ | ⟨index, c, rfl⟩ <;> rfl

theorem judge_of_own {status : Ending} (e : LimitSet) (stale : Bool) (figures : Figures)
    (own : figuresCompared status = false) : judge (some e) status stale figures = retestJudgement e := by
  unfold judge
  dsimp only
  rw [own]
  rfl

/-- A record as the store keeps it: OVERWRITTEN is set where its site's slot was NEW (R157). -/
def storedRecord (r : ResultRecord) (s : State) : ResultRecord :=
  { r with flags := { r.flags with overwritten := r.flags.overwritten || isNew (slotAt s r.site) } }

theorem post_eq (r : ResultRecord) (s : State) : post r s =
    { s with
      results :=
        { slots := s.results.slots.set r.site (.new (storedRecord r s))
          completion := s.results.completion.filter (· != r.site) ++ [r.site] }
      notices := if s.results.completion = [] then raiseIn s.notices .resultReady else s.notices } := by
  have stored : (if isNew (slotAt s r.site) then { r with flags := { r.flags with overwritten := true } } else r) =
      storedRecord r s := by
    unfold storedRecord
    split
    · next new => rw [new, Bool.or_true]
    · next old => rw [Bool.eq_false_iff.mpr old, Bool.or_false]
  unfold post
  rw [stored]
  dsimp only
  cases s.results.completion with
  | nil => rfl
  | cons site rest => rfl

theorem lowerInUse_eq (j : Job) (s : State) : lowerInUse j s = { s with limits := match j.limit with
    | none => s.limits
    | some index => { s.limits with inUse := s.limits.inUse.set index (inUseOf s index - 1) } } := by
  unfold lowerInUse
  cases j.limit <;> rfl

/-- The end of a live job by the job block (R65). -/
theorem endJob_eq {s : State} {j : Job} (status : Ending) (ids : IdsDistinct s) (live : jobAt s j.site = some j) :
    endJob j.id status s = finishJob j (figurelessWorking j status) s := by
  unfold endJob
  rw [jobWithId_eq ((idsDistinct_iff s).mp ids).1 live]

/-- The record of a job that ends without figures, judged as given (R65, R154). -/
def figurelessRecord (j : Job) (status : Ending) (verdict : Verdict) (bin : Option Nat) : ResultRecord :=
  { job := j.id, site := j.site, hostTag := j.hostTag, status, mode := j.mode, channels := j.channels
    prescale := j.prescale, length := j.length, segmentExponent := none
    flags := { prescaleAdjusted := j.adjusted }, figures := noFigures, verdict, failing := [], bin }

theorem formRecord_of_no_limit {s : State} {j : Job} (status : Ending) (noLimit : j.limit = none) :
    formRecord s j (figurelessWorking j status) = figurelessRecord j status .nothing none := by
  have entry : entryOf s j = none := by simp [entryOf, noLimit]
  unfold formRecord
  rw [entry]
  rfl

theorem formRecord_of_entry {s : State} {j : Job} {index : Fin 64} {e : LimitSet} {status : Ending}
    (own : figuresCompared status = false) (limit : j.limit = some index) (defined : s.limits.entries[index] = some e) :
    formRecord s j (figurelessWorking j status) = figurelessRecord j status .retest (some e.retestBin) := by
  have entry : entryOf s j = some e := by simp only [entryOf, limit, defined]
  have judged := judge_of_own e (figurelessWorking j status).flags.calStale (figurelessWorking j status).figures own
  unfold formRecord
  rw [entry]
  simp only [show (figurelessWorking j status).status = status from rfl, judged]
  rfl

/-- Settles O36: the record formed is judged by the entry the job named, and posted. -/
theorem jobBlockEndingPostsTheRecord : Obligations.JobBlockEndingPostsTheRecord := by
  unfold Obligations.JobBlockEndingPostsTheRecord
  intro j status s ids live own
  refine ⟨fun noLimit => ?_, fun index e limit defined => ?_⟩
  · rw [endJob_eq status ids live, finishJob, post_eq, formRecord_of_no_limit status noLimit, lowerInUse_eq, noLimit]
    rfl
  · rw [endJob_eq status ids live, finishJob, post_eq, formRecord_of_entry (not_figuresCompared own) limit defined,
      lowerInUse_eq, limit]
    rfl

end Sys2Proof.Machine
end

section
/-! SUPPORT. JOB_SUBMIT and LIMIT_WRITE (R55 to R62, R135 to R139): how the fields are judged in order, what an accepted
record holds, and how a submission with accepted fields ends. -/

namespace Sys2Proof.Machine

/-! ### Fields judged in order (R188) -/

/-- The checks tell, in order, whether a draft's fields are accepted: a draft is refused with the number of the first that
does not hold, and stands when all hold. -/
def JudgedBy {α : Type} (checks : List (Nat × Bool)) (draft : Except Nat α) : Prop :=
  (∀ check, checks.find? (fun check => !check.2) = some check → draft = .error check.1) ∧
  (checks.all (fun check => check.2) = true → ∃ x, draft = .ok x)

theorem judgedBy_nil {α : Type} (x : α) : JudgedBy [] (.ok x) :=
  ⟨nofun, fun _ => ⟨x, rfl⟩⟩

/-- A field joins the checks in front of those of the fields after it. -/
theorem judgedBy_accept {α β : Type} {number : Nat} {value : Option α} {next : α → Except Nat β} {holds : Bool}
    {checks : List (Nat × Bool)} (accepted : value.isSome = holds)
    (rest : ∀ x, value = some x → JudgedBy checks (next x)) :
    JudgedBy ((number, holds) :: checks) (accept number value >>= next) := by
  subst accepted
  cases value with
  | none =>
    refine ⟨fun check first => ?_, fun all => ?_⟩
    · obtain rfl : (number, false) = check := Option.some.inj first
      rfl
    · simp at all
  | some x =>
    obtain ⟨refused, stands⟩ := rest x rfl
    exact ⟨fun check first => refused check (by simpa using first), fun all => stands (by simpa using all)⟩

/-! ### The values of a submission's fields (R55, R56) -/

theorem isSome_siteOf (b : Byte) : (siteOf b).isSome = decide (b.toNat < 16) := by
  unfold siteOf
  split <;> simp [*]

theorem val_of_siteOf {b : Byte} {site : Site} (read : siteOf b = some site) : site.val = b.toNat := by
  unfold siteOf at read
  split at read <;> cases read
  rfl

/-- A byte that names one of two values does so below 2. -/
theorem isSome_ofTwo {α : Type} (b : Byte) (x y : α) :
    (if b = 0 then some x else if b = 1 then some y else none).isSome = decide (b.toNat < 2) := by
  by_cases named : b.toNat < 2
  · obtain rfl | rfl : b = 0 ∨ b = 1 := by bv_omega
    · rfl
    · rfl
  · have zero : b ≠ 0 := by bv_omega
    have one : b ≠ 1 := by bv_omega
    rw [if_neg zero, if_neg one, decide_eq_false named, Option.isSome_none]

theorem isSome_modeOf (b : Byte) : (modeOf b).isSome = decide (b.toNat < 2) :=
  isSome_ofTwo b _ _

theorem modeCode_of_modeOf {b : Byte} {mode : Mode} (read : modeOf b = some mode) : modeCode mode = b := by
  unfold modeOf at read
  split_ifs at read with single paired <;> cases read
  · exact single.symm
  · exact paired.symm

theorem isSome_triggerFieldOf (b : Byte) : (triggerFieldOf b).isSome = decide (b.toNat < 2) :=
  isSome_ofTwo b _ _

theorem triggerFieldCode_of_triggerFieldOf {b : Byte} {trigger : TriggerField} (read : triggerFieldOf b = some trigger) :
    triggerFieldCode trigger = b := by
  unfold triggerFieldOf at read
  split_ifs at read with immediate onTrigger <;> cases read
  · exact immediate.symm
  · exact onTrigger.symm

/-- A job is held when it waits for the trigger. -/
theorem acceptedState_eq (trigger : TriggerField) :
    acceptedState trigger = if triggerFieldCode trigger = 1 then .held else .queued := by
  cases trigger <;> rfl

/-- A channel below 4 and a site are of one group when both are in the lower halves or both in the upper. -/
theorem sameGroup_iff (c : ChannelId) (site : Site) :
    groupOfChannel c = groupOfSite site ↔ (c.val < 2 ↔ site.val < 8) := by
  unfold groupOfChannel groupOfSite
  split_ifs with low lower lower <;> simp [low, lower]

theorem isSome_choiceOf (mode : Mode) (site : Site) (b : Byte) : (choiceOf mode site b).isSome =
    (decide (b = 0xFF) ||
      (decide (modeCode mode = 0) && decide (b.toNat < 4) && (decide (b.toNat < 2) == decide (site.val < 8)))) := by
  unfold choiceOf channelOf
  by_cases any : b = 0xFF
  · simp [any]
  rw [if_neg any, decide_eq_false any, Bool.false_or]
  split_ifs with channel
  · cases mode with
    | paired => rfl
    | single =>
      have group := sameGroup_iff ⟨b.toNat, channel⟩ site
      simp only [group, apply_ite Option.isSome, Option.isSome_some, Option.isSome_none, channel, modeCode]
      by_cases low : b.toNat < 2 <;> by_cases lower : site.val < 8 <;> simp [low, lower]
  · simp [channel]

/-- A choice as the field carries it: a channel's byte, or the byte of ANY. -/
def choiceCode : Option ChannelId → Byte
  | none => 0xFF
  | some c => channelCode c

theorem choiceCode_of_choiceOf {mode : Mode} {site : Site} {b : Byte} {choice : Option ChannelId}
    (read : choiceOf mode site b = some choice) : b = choiceCode choice := by
  unfold choiceOf channelOf at read
  split_ifs at read with any channel
  · cases read
    exact any
  · cases mode with
    | paired => cases read
    | single =>
      dsimp only at read
      split_ifs at read
      cases read
      exact (byteOfNat_toNat b).symm

theorem greatestLength_eq (mode : Mode) : greatestLength mode = if modeCode mode = 0 then 1048576 else 1048575 := by
  cases mode <;> rfl

theorem isSome_exponentOf (spectral : Bool) (e : Option Byte) : (exponentOf spectral e).isSome =
    if byteOfBool spectral = 0 then e.isNone else e.any fun e => decide (10 ≤ e.toNat) && decide (e.toNat ≤ 16) := by
  cases spectral with
  | false => cases e <;> rfl
  | true =>
    cases e with
    | none => rfl
    | some b => simp only [exponentOf, Option.isSome_map, isSome_inRange]; rfl

theorem map_toNat_of_exponentOf {spectral : Bool} {e : Option Byte} {exponent : Option Nat}
    (read : exponentOf spectral e = some exponent) : exponent = e.map BitVec.toNat := by
  unfold exponentOf at read
  split at read
  · obtain ⟨n, within, rfl⟩ := Option.map_eq_some_iff.mp read
    rw [eq_of_inRange within]
    rfl
  all_goals cases read
  rfl

theorem decide_byteOfBool (x : Bool) : decide (byteOfBool x = 1) = x := by
  cases x <;> rfl

theorem isSome_bandsOf (spectral : Bool) (bands : List (BitVec 32 × BitVec 32)) : (bandsOf spectral bands).isSome =
    (decide (bands.length ≤ 4) && bands.all bandAccepted && (decide (byteOfBool spectral = 1) || bands.isEmpty)) := by
  rw [bandsOf, apply_ite Option.isSome, decide_byteOfBool, Bool.eq_iff_iff]
  simp [and_assoc]

theorem map_toNat_of_bandsOf {spectral : Bool} {field : List (BitVec 32 × BitVec 32)} {bands : List (Nat × Nat)}
    (read : bandsOf spectral field = some bands) : bands = field.map fun band => (band.1.toNat, band.2.toNat) := by
  unfold bandsOf at read
  split_ifs at read
  exact (Option.some.inj read).symm

theorem isSome_spotsOf (spectral : Bool) (spots : List (BitVec 32)) : (spotsOf spectral spots).isSome =
    (decide (spots.length ≤ 4) && spots.all spotAccepted && (decide (byteOfBool spectral = 1) || spots.isEmpty)) := by
  rw [spotsOf, apply_ite Option.isSome, decide_byteOfBool, Bool.eq_iff_iff]
  simp [and_assoc]

theorem map_toNat_of_spotsOf {spectral : Bool} {field : List (BitVec 32)} {spots : List Nat}
    (read : spotsOf spectral field = some spots) : spots = field.map BitVec.toNat := by
  unfold spotsOf at read
  split_ifs at read
  exact (Option.some.inj read).symm

theorem isSome_floorCorrectionOf (mode : Mode) (b : Byte) : (floorCorrectionOf mode b).isSome =
    (decide (b.toNat < 2) && !(decide (modeCode mode = 1) && decide (b = 1))) := by
  by_cases named : b.toNat < 2
  · obtain rfl | rfl : b = 0 ∨ b = 1 := by bv_omega
    · cases mode <;> rfl
    · cases mode <;> rfl
  · unfold floorCorrectionOf
    rw [boolOf_eq_none (Nat.not_lt.mp named)]
    cases mode <;> simp [named]

theorem byteOfBool_of_floorCorrectionOf {mode : Mode} {b : Byte} {x : Bool} (read : floorCorrectionOf mode b = some x) :
    byteOfBool x = b := by
  unfold floorCorrectionOf at read
  split at read
  · cases read
  · exact byteOfBool_of_boolOf read

theorem isSome_limitOf (b : Option Byte) : (limitOf b).isSome = b.all fun index => decide (index.toNat < 64) := by
  cases b with
  | none => rfl
  | some b => exact Option.isSome_map.trans (isSome_limitIndexOf b)

theorem map_val_of_limitOf {b : Option Byte} {limit : Option (Fin 64)} (read : limitOf b = some limit) :
    limit.map (fun index => index.val) = b.map BitVec.toNat := by
  cases b with
  | none => cases read; rfl
  | some b =>
    obtain ⟨index, named, rfl⟩ := Option.map_eq_some_iff.mp read
    unfold limitIndexOf at named
    split at named <;> cases named
    rfl

theorem usedPrescale_eq (fNom requested : Nat) : usedPrescale fNom requested =
    if 50000000 * requested < fNom then (fNom + 49999999) / 50000000
    else if fNom < 10000 * requested then fNom / 10000 else requested := by
  have ceiling : fNom + 50000000 - 1 = fNom + 49999999 := by omega
  rw [usedPrescale, ceilDiv, ceiling]

theorem usedPrescale_counts {fNom requested : Nat} (least : 1000000 ≤ fNom) (greatest : fNom ≤ 1000000000)
    (one : 1 ≤ requested) (most : requested ≤ 4096) : 1 ≤ usedPrescale fNom requested ∧ usedPrescale fNom requested ≤ 4096 := by
  unfold usedPrescale ceilDiv
  split_ifs <;> omega

/-! ### The draft of a submission (R55, R59, R61) -/

/-- The checks of a submission's fields, each with its number (R55, R56). -/
def jobChecks (f : JobFields) : List (Nat × Bool) :=
  [(1, decide (f.site.toNat < 16)), (3, decide (f.mode.toNat < 2)),
    (4, decide (f.choice = 0xFF) ||
      (decide (f.mode = 0) && decide (f.choice.toNat < 4) && (decide (f.choice.toNat < 2) == decide (f.site.toNat < 8)))),
    (5, decide (1000000 ≤ f.fNom.toNat) && decide (f.fNom.toNat ≤ 1000000000)),
    (6, decide (1 ≤ f.prescale.toNat) && decide (f.prescale.toNat ≤ 4096)),
    (7, decide (8 ≤ f.length.toNat) && decide (f.length.toNat ≤ if f.mode = 0 then 1048576 else 1048575)),
    (8, decide (f.spectral.toNat < 2)),
    (9, if f.spectral = 0 then f.exponent.isNone
      else f.exponent.any fun e => decide (10 ≤ e.toNat) && decide (e.toNat ≤ 16)),
    (10, decide (f.bands.length ≤ 4) && f.bands.all bandAccepted && (decide (f.spectral = 1) || f.bands.isEmpty)),
    (11, decide (f.spots.length ≤ 4) && f.spots.all spotAccepted && (decide (f.spectral = 1) || f.spots.isEmpty)),
    (12, decide (f.trigger.toNat < 2)), (13, decide (f.settle.toNat ≤ 1000000)),
    (14, decide (f.floorCorrection.toNat < 2) && !(decide (f.mode = 1) && decide (f.floorCorrection = 1))),
    (15, f.limit.all fun index => decide (index.toNat < 64))]

theorem draftJob_judgedBy (f : JobFields) : JudgedBy (jobChecks f) (draftJob f) := by
  unfold draftJob jobChecks
  refine judgedBy_accept (isSome_siteOf _) fun site named => judgedBy_accept (isSome_modeOf _) fun mode moded => ?_
  rw [← val_of_siteOf named, ← modeCode_of_modeOf moded]
  refine judgedBy_accept (isSome_choiceOf _ _ _) fun _ _ => judgedBy_accept (isSome_inRange _ _ _) fun _ _ =>
    judgedBy_accept (isSome_inRange _ _ _) fun _ _ =>
    judgedBy_accept (greatestLength_eq mode ▸ isSome_inRange _ _ _) fun _ _ =>
    judgedBy_accept (isSome_boolOf _) fun spectral flagged => ?_
  rw [← byteOfBool_of_boolOf flagged]
  exact judgedBy_accept (isSome_exponentOf _ _) fun _ _ => judgedBy_accept (isSome_bandsOf _ _) fun _ _ =>
    judgedBy_accept (isSome_spotsOf _ _) fun _ _ => judgedBy_accept (isSome_triggerFieldOf _) fun _ _ =>
    judgedBy_accept ((isSome_inRange _ _ _).trans (by simp)) fun _ _ =>
    judgedBy_accept (isSome_floorCorrectionOf _ _) fun _ _ => judgedBy_accept (isSome_limitOf _) fun _ _ => judgedBy_nil _

/-- What the record of an accepted submission holds of its fields (R55, R59, R61). -/
structure Drafted (f : JobFields) (j : Job) : Prop where
  site : j.site.val = f.site.toNat
  hostTag : j.hostTag = f.hostTag
  mode : modeCode j.mode = f.mode
  choice : f.choice = choiceCode j.choice
  fNom : j.fNom = f.fNom.toNat
  prescale : j.prescale = usedPrescale f.fNom.toNat f.prescale.toNat
  adjusted : j.adjusted = decide (j.prescale ≠ f.prescale.toNat)
  counts : 1 ≤ j.prescale ∧ j.prescale ≤ 4096
  length : j.length = f.length.toNat
  spectral : byteOfBool j.spectral = f.spectral
  exponent : j.exponent = f.exponent.map BitVec.toNat
  bands : j.bands = f.bands.map fun band => (band.1.toNat, band.2.toNat)
  spots : j.spots = f.spots.map BitVec.toNat
  trigger : triggerFieldCode j.trigger = f.trigger
  settle : j.settle = f.settle.toNat
  floorCorrection : byteOfBool j.floorCorrection = f.floorCorrection
  limit : j.limit.map (fun index => index.val) = f.limit.map BitVec.toNat
  state : j.state = if f.trigger = 1 then .held else .queued
  channels : j.channels = []

theorem within_of_inRange {low high n m : Nat} (read : inRange low high n = some m) : low ≤ n ∧ n ≤ high := by
  unfold inRange at read
  split_ifs at read with within
  exact within

theorem drafted_of_draftJob {f : JobFields} {j : Job} (draft : draftJob f = .ok j) : Drafted f j := by
  unfold draftJob at draft
  simp only [bind_eq_ok_iff, accept_eq_ok_iff, Except.ok.injEq] at draft
  obtain ⟨site, hsite, mode, hmode, choice, hchoice, fNom, hfNom, requested, hrequested, length, hlength, spectral, hspectral,
    exponent, hexponent, bands, hbands, spots, hspots, trigger, htrigger, settle, hsettle, floorCorrection, hfloor, limit,
    hlimit, rfl⟩ := draft
  obtain ⟨least, greatest⟩ := within_of_inRange hfNom
  obtain ⟨one, most⟩ := within_of_inRange hrequested
  obtain rfl := eq_of_inRange hfNom
  obtain rfl := eq_of_inRange hrequested
  exact {
    site := val_of_siteOf hsite
    hostTag := rfl
    mode := modeCode_of_modeOf hmode
    choice := choiceCode_of_choiceOf hchoice
    fNom := rfl
    prescale := rfl
    adjusted := rfl
    counts := usedPrescale_counts least greatest one most
    length := eq_of_inRange hlength
    spectral := byteOfBool_of_boolOf hspectral
    exponent := map_toNat_of_exponentOf hexponent
    bands := map_toNat_of_bandsOf hbands
    spots := map_toNat_of_spotsOf hspots
    trigger := triggerFieldCode_of_triggerFieldOf htrigger
    settle := eq_of_inRange hsettle
    floorCorrection := byteOfBool_of_floorCorrectionOf hfloor
    limit := map_val_of_limitOf hlimit
    state := triggerFieldCode_of_triggerFieldOf htrigger ▸ acceptedState_eq trigger
    channels := rfl }

/-! ### JOB_SUBMIT (R57, R61) -/

theorem examineAfterAcceptance_link (j : Job) (s : State) :
    (followIdle (examine (groupOfSite j.site) (acceptJob j s))).link = s.link := by
  unfold acceptJob raiseInUse
  split <;> simp

theorem raiseInUse_ignoresLink (j : Job) : IgnoresLink (raiseInUse j) := by
  intro l s
  unfold raiseInUse
  split
  · rfl
  · rfl

theorem acceptJob_ignoresLink (j : Job) : IgnoresLink (acceptJob j) := by
  intro l s
  have counted := raiseInUse_ignoresLink j l { s with jobCounter := advanceId j.id }
  have same : ({ setLink l s with jobCounter := advanceId j.id } : State) =
      setLink l { s with jobCounter := advanceId j.id } := rfl
  unfold acceptJob
  dsimp only
  rw [same, counted]
  rfl

theorem examineAfterAcceptance_ignoresLink (j : Job) :
    IgnoresLink fun s => followIdle (examine (groupOfSite j.site) (acceptJob j s)) :=
  followIdle_ignoresLink.comp ((examine_ignoresLink _).comp (acceptJob_ignoresLink j))

/-- The owner of JOB_SUBMIT neither reads nor writes the receiver. -/
theorem serveJobSubmit_ignoresReceiver (f : JobFields) : IgnoresReceiver (serveJobSubmit f) := by
  intro r s
  have fault (j : Job) : submissionFault (setReceiver r s) j = submissionFault s j := rfl
  have id : assignedId (setReceiver r s) = assignedId s := rfl
  unfold serveJobSubmit
  cases draftJob f with
  | error number => rfl
  | ok draft =>
    dsimp only
    rw [fault, id]
    cases submissionFault s draft with
    | some status => rfl
    | none =>
      have moved := (examineAfterAcceptance_ignoresLink { draft with id := assignedId s }).setReceiver
        (examineAfterAcceptance_link _) r s
      dsimp only at moved ⊢
      rw [moved]

theorem exec_jobSubmit_answers {s : State} (tag : Byte) {f : JobFields} (ready : Ready s) (fits : f.wellFormed = true) :
    exec (.jobSubmit tag f) s = .next (answered 0x8C tag (serveJobSubmit f s).1 (serveJobSubmit f s).2) := by
  have readsBack : readRequest 0x0C (requestPayload (.jobSubmit f)) = some (.jobSubmit f) :=
    congrArg (Option.map Request.jobSubmit) (readJob_written f fits)
  have bytes : (requestPayload (.jobSubmit f)).length ≤ 1024 := by
    simp only [JobFields.wellFormed, Bool.and_eq_true, decide_eq_true_eq] at fits
    exact (Laws.Described.jobPayload_length f).trans_le fits.2
  exact receiveRequest_answers (r := .jobSubmit f) ready readsBack bytes nofun (serveJobSubmit_ignoresReceiver f)

theorem badField_eq (number : Nat) : badField number = [0x05, byteOfNat number] :=
  rfl

theorem serveJobSubmit_of_refused {f : JobFields} {number : Nat} (s : State) (refused : draftJob f = .error number) :
    serveJobSubmit f s = (badField number, s) := by
  simp only [serveJobSubmit, refused]

theorem serveJobSubmit_of_fault {f : JobFields} {draft : Job} {status : Status} {s : State} (drafted : draftJob f = .ok draft)
    (fault : submissionFault s draft = some status) : serveJobSubmit f s = (refusal status, s) := by
  simp only [serveJobSubmit, drafted, fault]

theorem serveJobSubmit_of_passes {f : JobFields} {draft : Job} {s : State} (drafted : draftJob f = .ok draft)
    (passes : submissionFault s draft = none) :
    serveJobSubmit f s =
      (acceptanceReply { draft with id := assignedId s },
        followIdle (examine (groupOfSite draft.site) (acceptJob { draft with id := assignedId s } s))) := by
  simp only [serveJobSubmit, drafted, passes]

/-- Settles O32: the draft is judged by the checks in their order, and each accepted field stands in the record. -/
theorem jobFieldsAreJudgedInOrder : Obligations.JobFieldsAreJudgedInOrder := by
  unfold Obligations.JobFieldsAreJudgedInOrder
  intro tag f s ready fits
  obtain ⟨refused, stands⟩ := draftJob_judgedBy f
  refine ⟨fun check first => ?_, fun all => ?_⟩
  · rw [exec_jobSubmit_answers tag ready fits, serveJobSubmit_of_refused s (refused check first), badField_eq]
  · obtain ⟨j, draft⟩ := stands all
    have drafted := drafted_of_draftJob draft
    refine ⟨j, draft, drafted.site, drafted.hostTag, drafted.mode, ?_, drafted.fNom,
      drafted.prescale.trans (usedPrescale_eq _ _), drafted.adjusted,
      drafted.counts.1, drafted.counts.2, drafted.length, drafted.spectral, drafted.exponent, drafted.bands, drafted.spots,
      drafted.trigger, drafted.settle, drafted.floorCorrection, drafted.limit, drafted.state, drafted.channels⟩
    have chosen := drafted.choice
    revert chosen
    cases j.choice with
    | none => exact id
    | some c => exact Eq.symm

/-! ### Ids and acceptance (R58, R61, R62) -/

theorem submissionFault_of_live {s : State} {j : Job} (live : (jobAt s j.site).isSome = true) :
    submissionFault s j = some .siteBusy :=
  if_pos live

theorem submissionFault_of_free {s : State} {j : Job} (free : jobAt s j.site = none) :
    submissionFault s j = j.limit.bind fun index =>
      limitFault s index j.spectral j.bands.length j.spots.length j.fNom := by
  unfold submissionFault
  rw [free, Option.isSome_none, if_neg Bool.false_ne_true]
  cases j.limit <;> rfl

/-- The value found is the first, on the way from the counter, that no live job holds. -/
theorem freeIdFrom_steps (live : List Nat) (n id : Nat) : ∃ steps ≤ n,
    freeIdFrom live n id = advanceId^[steps] id ∧ ∀ earlier < steps, advanceId^[earlier] id ∈ live := by
  induction n generalizing id with
  | zero => exact ⟨0, le_rfl, rfl, nofun⟩
  | succ n ih =>
    by_cases held : live.contains id = true
    · obtain ⟨steps, few, found, passed⟩ := ih (advanceId id)
      refine ⟨steps + 1, Nat.succ_le_succ few, (if_pos held).trans found, fun earlier before => ?_⟩
      cases earlier with
      | zero => exact List.contains_iff_mem.mp held
      | succ earlier => exact passed earlier (Nat.lt_of_succ_lt_succ before)
    · exact ⟨0, Nat.zero_le _, if_neg held, nofun⟩

theorem assignedId_notMem {s : State} {site : Site} (free : jobAt s site = none) (least : 1 ≤ s.jobCounter)
    (greatest : s.jobCounter ≤ 65535) : assignedId s ∉ (liveJobs s).map (·.id) := by
  intro held
  obtain ⟨j, live, same⟩ := List.mem_map.mp held
  obtain ⟨i, at_i⟩ := mem_liveJobs.mp live
  exact assignedId_fresh free least greatest i j at_i same

/-- The limit table once a job is accepted: its entry's in-use count rises (R143). -/
def limitsWith (j : Job) (s : State) : LimitTable :=
  (raiseInUse j s).limits

theorem limitsWith_of_unnamed {j : Job} {s : State} (unnamed : j.limit = none) : limitsWith j s = s.limits := by
  simp only [limitsWith, raiseInUse, unnamed]

theorem limitsWith_of_named {j : Job} {s : State} {index : Fin 64} (named : j.limit = some index) :
    limitsWith j s = { s.limits with inUse := s.limits.inUse.set index (inUseOf s index + 1) } := by
  simp only [limitsWith, raiseInUse, named]
  rfl

theorem raiseInUse_eq (j : Job) (s : State) : raiseInUse j s = { s with limits := limitsWith j s } := by
  unfold limitsWith raiseInUse
  split
  · rfl
  · rfl

theorem limitsWith_counter (j : Job) (counter : Nat) (s : State) :
    limitsWith j { s with jobCounter := counter } = limitsWith j s := by
  unfold limitsWith raiseInUse
  split
  · rfl
  · rfl

theorem limitsWith_id (j : Job) (id : Nat) (s : State) : limitsWith { j with id } s = limitsWith j s :=
  rfl

theorem acceptJob_eq (j : Job) (s : State) : acceptJob j s =
    setQueue (groupOfSite j.site) (queueOf s (groupOfSite j.site) ++ [.job j.id j.site]) (setJob j.site (some j)
      { s with jobCounter := advanceId j.id, limits := limitsWith j s }) := by
  unfold acceptJob
  dsimp only
  rw [raiseInUse_eq, limitsWith_counter]
  rfl

theorem acceptanceReply_eq (j : Job) : acceptanceReply j =
    [0x00] ++ bytes16OfNat j.id ++ bytes16OfNat j.prescale ++ [byteOfBool j.adjusted, jobStateCode j.state] :=
  rfl

theorem refusal_eq (status : Status) : refusal status = [statusCode status] :=
  rfl

/-- Settles O33: the refusals by the submission's checks; the acceptance by the walk of the id counter. -/
theorem jobSubmitIsRefusedOrAccepted : Obligations.JobSubmitIsRefusedOrAccepted := by
  unfold Obligations.JobSubmitIsRefusedOrAccepted
  intro tag f draft s ready fits drafted least greatest fault live beyond g
  refine ⟨fun busy => ?_, fun status free faulty => ?_, fun free passes => ?_⟩
  · rw [exec_jobSubmit_answers tag ready fits, serveJobSubmit_of_fault drafted (submissionFault_of_live busy), refusal_eq]
    rfl
  · rw [exec_jobSubmit_answers tag ready fits,
      serveJobSubmit_of_fault drafted ((submissionFault_of_free free).trans faulty), refusal_eq]
  · obtain ⟨steps, few, found, passed⟩ := freeIdFrom_steps live 16 s.jobCounter
    replace found : assignedId s = beyond^[steps] s.jobCounter := found
    have fresh : assignedId s ∉ live := assignedId_notMem free least greatest
    have counts := freeIdFrom_counts live 16 least greatest
    refine ⟨steps, few, passed, found ▸ fresh, found ▸ counts.1, found ▸ counts.2, ?_⟩
    rw [exec_jobSubmit_answers tag ready fits,
      serveJobSubmit_of_passes drafted ((submissionFault_of_free free).trans passes), acceptanceReply_eq, acceptJob_eq,
      limitsWith_id, ← found]
    cases named : draft.limit with
    | none =>
      rw [limitsWith_of_unnamed named]
      rfl
    | some index =>
      rw [limitsWith_of_named named]
      rfl

/-! ### The values of a limit set's fields (R135, R138) -/

theorem isSome_limitKindOf (b : Byte) : (limitKindOf b).isSome = decide (b.toNat < 2) :=
  isSome_ofTwo b _ _

theorem isSome_stalePolicyOf (b : Byte) : (stalePolicyOf b).isSome = decide (b.toNat < 2) :=
  isSome_ofTwo b _ _

theorem isSome_lotOf (isLot : Bool) (lot : Option (BitVec 32)) : (lotOf isLot lot).isSome =
    if byteOfBool isLot = 1 then lot.any (fun tag => decide (tag ≠ 0)) else lot.isNone := by
  cases isLot with
  | false => cases lot <;> rfl
  | true =>
    cases lot with
    | none => rfl
    | some tag =>
      by_cases zero : tag = 0
      · rw [zero]
        rfl
      · rw [lotOf, if_neg zero]
        exact (decide_eq_true zero).symm

theorem map_toNat_of_lotOf {isLot : Bool} {field : Option (BitVec 32)} {lot : Option Nat}
    (read : lotOf isLot field = some lot) : lot = field.map BitVec.toNat := by
  unfold lotOf at read
  split at read
  · split_ifs at read
    cases read
    rfl
  all_goals cases read
  rfl

theorem isSome_offsetMinOf (x : Option (BitVec 32)) :
    (offsetMinOf x).isSome = x.all fun b => offsetAccepted b.toInt := by
  cases x with
  | none => rfl
  | some b => cases accepted : offsetAccepted b.toInt <;> simp [offsetMinOf, accepted]

theorem map_toInt_of_offsetMinOf {field : Option (BitVec 32)} {offset : Option Int} (read : offsetMinOf field = some offset) :
    offset = field.map BitVec.toInt := by
  unfold offsetMinOf at read
  split at read
  · cases read
    rfl
  · split_ifs at read
    cases read
    rfl

theorem isSome_offsetMaxOf (low x : Option (BitVec 32)) : (offsetMaxOf (low.map BitVec.toInt) x).isSome =
    ((x.all fun b => offsetAccepted b.toInt) &&
      low.all fun low => x.all fun high => decide (low.toInt ≤ high.toInt)) := by
  cases x with
  | none => cases low <;> rfl
  | some b =>
    cases low with
    | none => cases accepted : offsetAccepted b.toInt <;> simp [offsetMaxOf, accepted, belowLimit]
    | some a =>
      rcases lt_or_ge b.toInt a.toInt with below | above
      · simp [offsetMaxOf, belowLimit, below]
      · cases accepted : offsetAccepted b.toInt <;> simp [offsetMaxOf, accepted, belowLimit, above]

theorem map_toInt_of_offsetMaxOf {low : Option Int} {field : Option (BitVec 32)} {offset : Option Int}
    (read : offsetMaxOf low field = some offset) : offset = field.map BitVec.toInt := by
  unfold offsetMaxOf at read
  split at read
  · cases read
    rfl
  · split_ifs at read
    cases read
    rfl

theorem isSome_timeMaximaOf (f : LimitFields) : (timeMaximaOf f).isSome =
    (f.tieRms.isSome || f.tiePp.isSome || f.perRms.isSome || f.c2cRms.isSome || f.c2cPeak.isSome) := by
  rw [timeMaximaOf, apply_ite Option.isSome]
  simp

theorem isSome_bandMaximumOf (kind : LimitKind) (x : Option (BitVec 32)) :
    (bandMaximumOf kind x).isSome = (decide (limitKindCode kind = 1) || x.isNone) := by
  cases kind <;> cases x <;> rfl

theorem eq_of_bandMaximumOf {kind : LimitKind} {field : Option (BitVec 32)} {maximum : Option Int}
    (read : bandMaximumOf kind field = some maximum) : maximum = maximumOfFs field := by
  unfold bandMaximumOf at read
  split at read <;> cases read
  rfl

theorem isSome_spotMaximumOf (kind : LimitKind) (x : Option (BitVec 16)) : (spotMaximumOf kind x).isSome =
    x.all fun b => decide (limitKindCode kind = 1) && decide (-20000 ≤ b.toInt) && decide (b.toInt ≤ 0) := by
  cases x with
  | none => cases kind <;> rfl
  | some b =>
    cases kind with
    | time => rfl
    | spectral => simp [spotMaximumOf, apply_ite Option.isSome, limitKindCode]

theorem map_toInt_of_spotMaximumOf {kind : LimitKind} {field : Option (BitVec 16)} {maximum : Option Int}
    (read : spotMaximumOf kind field = some maximum) : maximum = field.map BitVec.toInt := by
  unfold spotMaximumOf at read
  split at read
  · cases read
    rfl
  · cases read
  · split_ifs at read
    cases read
    rfl

theorem isSome_binOf (b : Byte) : (inRange 0 15 b.toNat).isSome = decide (b.toNat < 16) := by
  rw [isSome_inRange, decide_eq_true (Nat.zero_le _), Bool.true_and]
  exact decide_eq_decide.mpr Nat.lt_succ_iff.symm

/-- The checks of the fail bins, fields 25 to 38. -/
def failBinChecks (bins : Vector Byte 14) : List (Nat × Bool) :=
  (List.finRange 14).map fun i => (25 + i.val, decide (bins[i].toNat < 16))

theorem failBinsOf_of_first {bins : Vector Byte 14} {i : Fin 14} (bad : 16 ≤ bins[i].toNat)
    (before : ∀ earlier : Fin 14, earlier < i → bins[earlier].toNat < 16) : failBinsOf bins = .error (25 + i.val) := by
  have found : (bins.toList.findIdx? fun b => decide (16 ≤ b.toNat)) = some i.val := by
    refine List.findIdx?_eq_some_iff_getElem.mpr ⟨by simp, by simpa using bad, fun earlier less => ?_⟩
    simpa using before ⟨earlier, less.trans i.isLt⟩ less
  simp only [failBinsOf, found]

theorem failBinsOf_of_all {bins : Vector Byte 14} (all : ∀ i : Fin 14, bins[i].toNat < 16) :
    failBinsOf bins = .ok (bins.map fun b => b.toNat) := by
  have none : (bins.toList.findIdx? fun b => decide (16 ≤ b.toNat)) = none := by
    refine List.findIdx?_eq_none_iff.mpr fun b present => ?_
    obtain ⟨i, within, rfl⟩ := List.mem_iff_getElem.mp present
    simpa using all ⟨i, by simpa using within⟩
  simp only [failBinsOf, none]

theorem judgedBy_failBins {α : Type} (bins : Vector Byte 14) (next : Vector Nat 14 → α) :
    JudgedBy (failBinChecks bins) (failBinsOf bins >>= fun read => .ok (next read)) := by
  refine ⟨fun check first => ?_, fun all => ?_⟩
  · rw [failBinChecks, List.find?_map, Option.map_eq_some_iff] at first
    obtain ⟨i, found, rfl⟩ := first
    obtain ⟨bad, position, within, here, before⟩ := List.find?_eq_some_iff_getElem.mp found
    obtain rfl : position = i.val := by rw [← here]; simp
    rw [failBinsOf_of_first (i := i) (by simpa using bad) fun earlier less => ?_]
    · rfl
    · simpa using before earlier.val less
  · rw [failBinsOf_of_all fun i => by simpa using List.all_eq_true.mp all _ (List.mem_map_of_mem (List.mem_finRange i))]
    exact ⟨_, rfl⟩

/-! ### The draft of a limit set (R135, R138) -/

/-- The checks of a LIMIT_WRITE's fields, each with its number (R135, R138). -/
def limitChecks (f : LimitFields) : List (Nat × Bool) :=
  let offset (x : Option (BitVec 32)) : Bool := x.all fun b => offsetAccepted b.toInt
  let spot (x : Option (BitVec 16)) : Bool :=
    x.all fun b => decide (f.kind = 1) && decide (-20000 ≤ b.toInt) && decide (b.toInt ≤ 0)
  let band (x : Option (BitVec 32)) : Bool := decide (f.kind = 1) || x.isNone
  [(1, decide (f.index.toNat < 64)), (2, decide (f.kind.toNat < 2)), (3, decide (f.scope.toNat < 2)),
    (4, if f.scope = 1 then f.lot.any (fun tag => decide (tag ≠ 0)) else f.lot.isNone),
    (5, decide (1000000 ≤ f.fMin.toNat) && decide (f.fMin.toNat ≤ 1000000000)),
    (6, decide (f.fMin.toNat ≤ f.fMax.toNat) && decide (f.fMax.toNat ≤ 1000000000)),
    (7, offset f.offsetMin),
    (8, offset f.offsetMax && f.offsetMin.all fun low => f.offsetMax.all fun high => decide (low.toInt ≤ high.toInt)),
    (13, f.tieRms.isSome || f.tiePp.isSome || f.perRms.isSome || f.c2cRms.isSome || f.c2cPeak.isSome),
    (14, band f.band0), (15, band f.band1), (16, band f.band2), (17, band f.band3),
    (18, spot f.spot0), (19, spot f.spot1), (20, spot f.spot2), (21, spot f.spot3),
    (22, decide (f.stale.toNat < 2)), (23, decide (f.passBin.toNat < 16)), (24, decide (f.retestBin.toNat < 16))]
    ++ failBinChecks f.failBins

theorem draftLimit_judgedBy (f : LimitFields) : JudgedBy (limitChecks f) (draftLimit f) := by
  unfold draftLimit limitChecks
  refine judgedBy_accept (isSome_limitIndexOf _) fun _ _ => judgedBy_accept (isSome_limitKindOf _) fun kind kinded =>
    judgedBy_accept (isSome_boolOf _) fun isLot scope => ?_
  rw [← limitKindCode_of_limitKindOf kinded, ← byteOfBool_of_boolOf scope]
  refine judgedBy_accept (isSome_lotOf _ _) fun _ _ => judgedBy_accept (isSome_inRange _ _ _) fun fMin low => ?_
  obtain rfl := eq_of_inRange low
  refine judgedBy_accept (isSome_inRange _ _ _) fun _ _ => judgedBy_accept (isSome_offsetMinOf _) fun offsetMin above => ?_
  obtain rfl := map_toInt_of_offsetMinOf above
  exact judgedBy_accept (isSome_offsetMaxOf _ _) fun _ _ => judgedBy_accept (isSome_timeMaximaOf _) fun _ _ =>
    judgedBy_accept (isSome_bandMaximumOf _ _) fun _ _ => judgedBy_accept (isSome_bandMaximumOf _ _) fun _ _ =>
    judgedBy_accept (isSome_bandMaximumOf _ _) fun _ _ => judgedBy_accept (isSome_bandMaximumOf _ _) fun _ _ =>
    judgedBy_accept (isSome_spotMaximumOf _ _) fun _ _ => judgedBy_accept (isSome_spotMaximumOf _ _) fun _ _ =>
    judgedBy_accept (isSome_spotMaximumOf _ _) fun _ _ => judgedBy_accept (isSome_spotMaximumOf _ _) fun _ _ =>
    judgedBy_accept (isSome_stalePolicyOf _) fun _ _ => judgedBy_accept (isSome_binOf _) fun _ _ =>
    judgedBy_accept (isSome_binOf _) fun _ _ => judgedBy_failBins _ _

/-- What the limit set of an accepted LIMIT_WRITE holds of its fields (R135). -/
structure LimitDrafted (f : LimitFields) (index : Fin 64) (e : LimitSet) : Prop where
  index : index.val = f.index.toNat
  kind : limitKindCode e.kind = f.kind
  scope : byteOfBool e.lot.isSome = f.scope
  lot : e.lot = f.lot.map BitVec.toNat
  fMin : e.fMin = f.fMin.toNat
  fMax : e.fMax = f.fMax.toNat
  offsetMin : e.offsetMin = f.offsetMin.map BitVec.toInt
  offsetMax : e.offsetMax = f.offsetMax.map BitVec.toInt
  maxima : e.maxima.toList =
    [f.tieRms, f.tiePp, f.perRms, f.c2cRms, f.c2cPeak, f.band0, f.band1, f.band2, f.band3].map
      (Option.map fun b => (b.toNat : Int)) ++ [f.spot0, f.spot1, f.spot2, f.spot3].map (Option.map BitVec.toInt)
  stalePolicy : stalePolicyCode e.stalePolicy = f.stale
  passBin : e.passBin = f.passBin.toNat
  retestBin : e.retestBin = f.retestBin.toNat
  failBins : e.failBins = f.failBins.map BitVec.toNat

theorem val_of_limitIndexOf {b : Byte} {index : Fin 64} (read : limitIndexOf b = some index) : index.val = b.toNat := by
  unfold limitIndexOf at read
  split at read <;> cases read
  rfl

theorem eq_of_failBinsOf {field : Vector Byte 14} {bins : Vector Nat 14} (read : failBinsOf field = .ok bins) :
    bins = field.map BitVec.toNat := by
  unfold failBinsOf at read
  split at read <;> cases read
  rfl

theorem limitDrafted_of_draftLimit {f : LimitFields} {index : Fin 64} {e : LimitSet}
    (draft : draftLimit f = .ok (index, e)) : LimitDrafted f index e := by
  unfold draftLimit at draft
  simp only [bind_eq_ok_iff, accept_eq_ok_iff, Except.ok.injEq, Prod.mk.injEq] at draft
  obtain ⟨index, hindex, kind, hkind, isLot, hscope, lot, hlot, fMin, hfMin, fMax, hfMax, offsetMin, hoffsetMin,
    offsetMax, hoffsetMax, _, -, band0, hband0, band1, hband1, band2, hband2, band3, hband3, spot0, hspot0, spot1, hspot1,
    spot2, hspot2, spot3, hspot3, policy, hpolicy, passBin, hpassBin, retestBin, hretestBin, failBins, hfailBins,
    rfl, rfl⟩ := draft
  obtain rfl := isSome_of_lotOf hlot
  obtain rfl := eq_of_bandMaximumOf hband0
  obtain rfl := eq_of_bandMaximumOf hband1
  obtain rfl := eq_of_bandMaximumOf hband2
  obtain rfl := eq_of_bandMaximumOf hband3
  obtain rfl := map_toInt_of_spotMaximumOf hspot0
  obtain rfl := map_toInt_of_spotMaximumOf hspot1
  obtain rfl := map_toInt_of_spotMaximumOf hspot2
  obtain rfl := map_toInt_of_spotMaximumOf hspot3
  exact {
    index := val_of_limitIndexOf hindex
    kind := limitKindCode_of_limitKindOf hkind
    scope := byteOfBool_of_boolOf hscope
    lot := map_toNat_of_lotOf hlot
    fMin := eq_of_inRange hfMin
    fMax := eq_of_inRange hfMax
    offsetMin := map_toInt_of_offsetMinOf hoffsetMin
    offsetMax := map_toInt_of_offsetMaxOf hoffsetMax
    maxima := rfl
    stalePolicy := stalePolicyCode_of_stalePolicyOf hpolicy
    passBin := eq_of_inRange hpassBin
    retestBin := eq_of_inRange hretestBin
    failBins := eq_of_failBinsOf hfailBins }

/-! ### LIMIT_WRITE (R138, R139) -/

theorem serveLimitWrite_of_refused {f : LimitFields} {number : Nat} (s : State) (refused : draftLimit f = .error number) :
    serveLimitWrite f s = (badField number, s) := by
  simp only [serveLimitWrite, refused]

theorem serveLimitWrite_of_beyond {f : LimitFields} {index : Fin 64} {e : LimitSet} {s : State}
    (draft : draftLimit f = .ok (index, e)) (beyond : s.limits.extent ≤ index.val) :
    serveLimitWrite f s = (refusal .limitRange, s) := by
  simp only [serveLimitWrite, draft, if_pos beyond]

theorem serveLimitWrite_of_inUse {f : LimitFields} {index : Fin 64} {e : LimitSet} {s : State}
    (draft : draftLimit f = .ok (index, e)) (within : index.val < s.limits.extent) (used : 0 < inUseOf s index) :
    serveLimitWrite f s = (refusal .limitInUse, s) := by
  simp only [serveLimitWrite, draft, if_neg (Nat.not_le.mpr within), if_pos used]

/-- An entry within the extent that is not in use is written. -/
theorem serveLimitWrite_of_writes {f : LimitFields} {index : Fin 64} {e : LimitSet} {s : State}
    (draft : draftLimit f = .ok (index, e)) (within : index.val < s.limits.extent) (unused : inUseOf s index = 0) :
    serveLimitWrite f s =
      ([0x00, byteOfNat index.val, byteOfBool (s.limits.entries[index]).isSome], setEntry index (some e) s) := by
  have free : ¬0 < inUseOf s index := by omega
  simp only [serveLimitWrite, draft, if_neg (Nat.not_le.mpr within), if_neg free]
  rfl

/-- Settles O37: the draft is judged by the checks in their order, and the entry written holds the fields. -/
theorem limitWriteJudgesItsFieldsAndWritesWhole : Obligations.LimitWriteJudgesItsFieldsAndWritesWhole := by
  unfold Obligations.LimitWriteJudgesItsFieldsAndWritesWhole
  intro tag f s ready
  obtain ⟨refused, stands⟩ := draftLimit_judgedBy f
  refine ⟨fun check first => ?_, fun all => ?_⟩
  · rw [exec_limitWrite_answers tag f ready, serveLimitWrite_of_refused s (refused check first), badField_eq]
  · obtain ⟨⟨index, e⟩, draft⟩ := stands all
    have drafted := limitDrafted_of_draftLimit draft
    refine ⟨index, e, drafted.index, drafted.kind, drafted.scope, drafted.lot, drafted.fMin, drafted.fMax,
      drafted.offsetMin, drafted.offsetMax, drafted.maxima, drafted.stalePolicy, drafted.passBin, drafted.retestBin,
      drafted.failBins, fun beyond => ?_, fun within used => ?_, fun within unused => ?_⟩
    · rw [exec_limitWrite_answers tag f ready, serveLimitWrite_of_beyond draft beyond, refusal_eq]
      rfl
    · rw [exec_limitWrite_answers tag f ready, serveLimitWrite_of_inUse draft within used, refusal_eq]
      rfl
    · have byte : byteOfNat index.val = f.index := (congrArg byteOfNat drafted.index).trans (byteOfNat_toNat f.index)
      rw [exec_limitWrite_answers tag f ready, serveLimitWrite_of_writes draft within unused, byte]
      rfl

end Sys2Proof.Machine
end

section
/-! SUPPORT. The notice unit (R162, R164 to R167): how a flag is raised and latches, how the idle condition is followed, and
what NOTICE_ENABLE and NOTICE_CLEAR do. -/

namespace Sys2Proof.Machine

/-! ### Flags (R162) -/

theorem flagOf_withFlag (set : FlagSet) (flag other : NoticeFlag) :
    flagOf (withFlag set flag) other = (decide (other = flag) || flagOf set other) := by
  cases flag <;> cases other <;> rfl

theorem raise_of_pending {flag : NoticeFlag} {s : State} (pending : flagOf s.notices.flags flag = true) : raise flag s = s := by
  unfold raise raiseIn
  rw [if_pos pending]

theorem raise_of_clear {flag : NoticeFlag} {s : State} (clear : flagOf s.notices.flags flag = false) :
    raise flag s = { s with notices :=
      { s.notices with
        flags := withFlag s.notices.flags flag
        due := if flagOf s.notices.enables flag then true else s.notices.due } } := by
  have due : (s.notices.due || flagOf s.notices.enables flag) =
      if flagOf s.notices.enables flag then true else s.notices.due := by
    cases flagOf s.notices.enables flag
    · exact Bool.or_false _
    · exact Bool.or_true _
  unfold raise raiseIn
  rw [clear, due]
  rfl

/-- A flag that is raised is pending, and the others are as they were. -/
theorem flagOf_raiseIn (n : Notices) (flag other : NoticeFlag) :
    flagOf (raiseIn n flag).flags other = (decide (other = flag) || flagOf n.flags other) := by
  unfold raiseIn
  split
  · next pending =>
    by_cases same : other = flag
    · rw [same, pending, Bool.or_true]
    · rw [decide_eq_false same, Bool.false_or]
  · exact flagOf_withFlag n.flags flag other

theorem anyFlag_iff (set : FlagSet) : anyFlag set = true ↔ ∃ flag, flagOf set flag = true := by
  simp only [anyFlag, Bool.or_eq_true]
  constructor
  · rintro ((((pending | pending) | pending) | pending) | pending)
    exacts [⟨.resultReady, pending⟩, ⟨.calDone, pending⟩, ⟨.refChange, pending⟩, ⟨.triggerTaken, pending⟩,
      ⟨.queueIdle, pending⟩]
  · rintro ⟨flag, pending⟩
    cases flag <;> simp_all [flagOf]

theorem flagOf_flagsBoth (x y : FlagSet) (flag : NoticeFlag) :
    flagOf (flagsBoth x y) flag = (flagOf x flag && flagOf y flag) := by
  cases flag <;> rfl

theorem flagOf_flagsLess (x y : FlagSet) (flag : NoticeFlag) :
    flagOf (flagsLess x y) flag = (flagOf x flag && !flagOf y flag) := by
  cases flag <;> rfl

/-! ### The idle condition (R164) -/

theorem idleCondition_iff (s : State) : idleCondition s = true ↔
    s.queues.a = [] ∧ s.queues.b = [] ∧ (∀ c, (channelOfState s c).state = .idle) ∧ s.analysisQueue = [] ∧
      s.engine = .idle := by
  have channels : (s.channels.all fun ch => decide (ch.state = .idle)) = true ↔ ∀ c, (channelOfState s c).state = .idle := by
    simp only [Vector.all_eq_true, decide_eq_true_eq]
    exact ⟨fun all c => all c.val c.isLt, fun all i lt => all ⟨i, lt⟩⟩
  simp only [idleCondition, Bool.and_eq_true, List.isEmpty_iff, channels, decide_eq_true_eq]
  tauto

theorem followIdle_of_busy {s : State} (busy : idleCondition s = false) :
    followIdle s = { s with notices := { s.notices with idleHolds := false } } := by
  unfold followIdle
  rw [busy]
  rfl

theorem followIdle_of_still_idle {s : State} (idle : idleCondition s = true) (held : s.notices.idleHolds = true) :
    followIdle s = s := by
  have same : ({ s with notices := { s.notices with idleHolds := true } } : State) = s := by rw [← held]
  unfold followIdle
  rw [idle, held]
  exact same

theorem followIdle_of_falls_idle {s : State} (idle : idleCondition s = true) (before : s.notices.idleHolds = false) :
    followIdle s = { raise .queueIdle s with notices := { (raise .queueIdle s).notices with idleHolds := true } } := by
  unfold followIdle
  rw [idle, before]
  rfl

/-- Following the idle condition clears no flag. -/
theorem flagOf_followIdle {flag : NoticeFlag} {s : State} (pending : flagOf s.notices.flags flag = true) :
    flagOf (followIdle s).notices.flags flag = true := by
  cases idle : idleCondition s with
  | false => rw [followIdle_of_busy idle]; exact pending
  | true =>
    cases held : s.notices.idleHolds with
    | true => rw [followIdle_of_still_idle idle held]; exact pending
    | false =>
      rw [followIdle_of_falls_idle idle held]
      exact (flagOf_raiseIn s.notices .queueIdle flag).trans (by rw [pending, Bool.or_true])

/-! ### NOTICE_ENABLE (R166) -/

/-- The checks of a NOTICE_ENABLE's five fields, each with its number. -/
def enableChecks (e0 e1 e2 e3 e4 : Byte) : List (Byte × Bool) :=
  [(1, decide (e0.toNat < 2)), (2, decide (e1.toNat < 2)), (3, decide (e2.toNat < 2)), (4, decide (e3.toNat < 2)),
    (5, decide (e4.toNat < 2))]

/-- The enables that accepted bytes carry. -/
def enablesOf (e0 e1 e2 e3 e4 : Byte) : FlagSet :=
  { resultReady := decide (e0 = 1), calDone := decide (e1 = 1), refChange := decide (e2 = 1)
    triggerTaken := decide (e3 = 1), queueIdle := decide (e4 = 1) }

theorem draftEnables_refusedByFirst (e0 e1 e2 e3 e4 : Byte) :
    RefusedByFirst (enableChecks e0 e1 e2 e3 e4) (draftEnables e0 e1 e2 e3 e4) := by
  unfold draftEnables
  exact refusedByFirst_accept (isSome_boolOf e0) fun _ _ => refusedByFirst_accept (isSome_boolOf e1) fun _ _ =>
    refusedByFirst_accept (isSome_boolOf e2) fun _ _ => refusedByFirst_accept (isSome_boolOf e3) fun _ _ =>
    refusedByFirst_accept (isSome_boolOf e4) fun _ _ => refusedByFirst_nil _

theorem draftEnables_of_accepted {e0 e1 e2 e3 e4 : Byte}
    (holds : (enableChecks e0 e1 e2 e3 e4).all (fun check => check.2) = true) :
    draftEnables e0 e1 e2 e3 e4 = .ok (enablesOf e0 e1 e2 e3 e4) := by
  simp only [enableChecks, List.all_cons, List.all_nil, Bool.and_true, Bool.and_eq_true, decide_eq_true_eq] at holds
  obtain ⟨h0, h1, h2, h3, h4⟩ := holds
  unfold draftEnables
  rw [boolOf_eq_some h0, accept_some_bind, boolOf_eq_some h1, accept_some_bind, boolOf_eq_some h2, accept_some_bind,
    boolOf_eq_some h3, accept_some_bind, boolOf_eq_some h4, accept_some_bind]
  rfl

theorem serveNoticeEnable_of_refused {e0 e1 e2 e3 e4 : Byte} (s : State) {check : Byte × Bool}
    (first : (enableChecks e0 e1 e2 e3 e4).find? (fun check => !check.2) = some check) :
    serveNoticeEnable e0 e1 e2 e3 e4 s = ([0x05, check.1], s) := by
  obtain ⟨number, refused, coded⟩ := draftEnables_refusedByFirst e0 e1 e2 e3 e4 check first
  simp only [serveNoticeEnable, refused, badField_eq, coded]

/-- An enable is turned on while its flag is pending. -/
def TurnsOnPending (enables : FlagSet) (n : Notices) : Prop :=
  ∃ flag, flagOf n.flags flag = true ∧ flagOf n.enables flag = false ∧ flagOf enables flag = true

theorem anyFlag_turned_iff (enables : FlagSet) (n : Notices) :
    anyFlag (flagsBoth n.flags (flagsLess enables n.enables)) = true ↔ TurnsOnPending enables n := by
  rw [anyFlag_iff]
  refine exists_congr fun flag => ?_
  rw [flagOf_flagsBoth, flagOf_flagsLess]
  cases flagOf n.flags flag <;> cases flagOf n.enables flag <;> simp

theorem setEnables_of_turned {enables : FlagSet} {n : Notices} (turned : TurnsOnPending enables n) :
    setEnables enables n = { n with enables, due := true } := by
  rw [setEnables, (anyFlag_turned_iff enables n).mpr turned, Bool.or_true]

theorem setEnables_of_not_turned {enables : FlagSet} {n : Notices} (still : ¬TurnsOnPending enables n) :
    setEnables enables n = { n with enables, due := n.due } := by
  rw [setEnables, Bool.eq_false_iff.mpr fun any => still ((anyFlag_turned_iff enables n).mp any), Bool.or_false]

theorem serveNoticeEnable_of_accepted {e0 e1 e2 e3 e4 : Byte} (s : State)
    (holds : (enableChecks e0 e1 e2 e3 e4).all (fun check => check.2) = true) :
    serveNoticeEnable e0 e1 e2 e3 e4 s =
      ([0x00, flagSetByte (enablesOf e0 e1 e2 e3 e4), flagSetByte s.notices.flags],
        { s with notices := setEnables (enablesOf e0 e1 e2 e3 e4) s.notices }) := by
  simp only [serveNoticeEnable, draftEnables_of_accepted holds]
  rfl

theorem exec_noticeEnable_answers {s : State} (tag e0 e1 e2 e3 e4 : Byte) (ready : Ready s) :
    exec (.noticeEnable tag e0 e1 e2 e3 e4) s = .next
      (answered 0x95 tag (serveNoticeEnable e0 e1 e2 e3 e4 s).1 (serveNoticeEnable e0 e1 e2 e3 e4 s).2) := by
  have ignores : IgnoresReceiver (serveNoticeEnable e0 e1 e2 e3 e4) := fun r s => by
    unfold serveNoticeEnable
    cases draftEnables e0 e1 e2 e3 e4 <;> rfl
  exact receiveRequest_answers (r := .noticeEnable e0 e1 e2 e3 e4) ready rfl (by simp [requestPayload]) nofun ignores

/-! ### NOTICE_CLEAR (R167) -/

/-- The flags still pending when those of a byte are cleared. -/
def flagsLeft (flags : Byte) (pending : FlagSet) : FlagSet :=
  { resultReady := pending.resultReady && !flags.getLsbD 0
    calDone := pending.calDone && !flags.getLsbD 1
    refChange := pending.refChange && !flags.getLsbD 2
    triggerTaken := pending.triggerTaken && !flags.getLsbD 3
    queueIdle := pending.queueIdle && !flags.getLsbD 4 }

theorem serveNoticeClear_of_bad {flags : Byte} (s : State) (bad : 32 ≤ flags.toNat) :
    serveNoticeClear flags s = ([0x05, 1], s) := by
  simp only [serveNoticeClear, flagSetOf, if_neg (Nat.not_lt.mpr bad)]
  rfl

theorem serveNoticeClear_of_flags {flags : Byte} (s : State) (named : flags.toNat < 32) :
    serveNoticeClear flags s =
      ([0x00, flagSetByte (flagsLeft flags s.notices.flags)],
        { s with notices := { s.notices with flags := flagsLeft flags s.notices.flags } }) := by
  simp only [serveNoticeClear, flagSetOf, if_pos named]
  rfl

theorem exec_noticeClear_answers {s : State} (tag flags : Byte) (ready : Ready s) :
    exec (.noticeClear tag flags) s =
      .next (answered 0x96 tag (serveNoticeClear flags s).1 (serveNoticeClear flags s).2) := by
  have ignores : IgnoresReceiver (serveNoticeClear flags) := fun r s => by
    unfold serveNoticeClear
    cases flagSetOf flags <;> rfl
  exact receiveRequest_answers (r := .noticeClear flags) ready rfl (by simp [requestPayload]) nofun ignores

/-- Settles O42: the raised flag and the followed condition case by case; the two requests by their owners' answers. -/
theorem noticeFlagsLatchAndTheirRequests : Obligations.NoticeFlagsLatchAndTheirRequests := by
  unfold Obligations.NoticeFlagsLatchAndTheirRequests
  refine ⟨⟨fun flag s => ⟨raise_of_pending, fun clear => ⟨_, raise_of_clear clear, flagOf_withFlag _ _⟩⟩,
    fun s => ⟨fun busy => ?_, fun idle => ?_, fun idle => ?_⟩⟩,
    fun tag e0 e1 e2 e3 e4 s ready => ⟨fun check first => ?_, fun all => ⟨fun turned => ?_, fun still => ?_⟩⟩,
    fun tag flags s ready => ⟨fun bad => ?_, fun named => ?_⟩⟩
  · exact followIdle_of_busy (Bool.eq_false_iff.mpr fun idle => busy ((idleCondition_iff s).mp idle))
  · exact followIdle_of_still_idle ((idleCondition_iff s).mpr idle)
  · exact followIdle_of_falls_idle ((idleCondition_iff s).mpr idle)
  · rw [exec_noticeEnable_answers _ _ _ _ _ _ ready, serveNoticeEnable_of_refused s first]
  · rw [exec_noticeEnable_answers _ _ _ _ _ _ ready, serveNoticeEnable_of_accepted s all,
      setEnables_of_turned (enables := enablesOf e0 e1 e2 e3 e4) turned]
    rfl
  · rw [exec_noticeEnable_answers _ _ _ _ _ _ ready, serveNoticeEnable_of_accepted s all,
      setEnables_of_not_turned (enables := enablesOf e0 e1 e2 e3 e4) still]
    rfl
  · rw [exec_noticeClear_answers _ _ ready, serveNoticeClear_of_bad s bad]
  · rw [exec_noticeClear_answers _ _ ready, serveNoticeClear_of_flags s named]
    rfl

end Sys2Proof.Machine
end

section
/-! SUPPORT. What a reference loss ends (R31, R52): the captures with their jobs, the calibrations, and nothing else. -/

namespace Sys2Proof.Machine

/-! ### What each event of a loss keeps -/

theorem foldl_keeps {σ α : Type} {f : σ → α → σ} {P : σ → Prop} (each : ∀ s x, P s → P (f s x)) (xs : List α) {s : σ}
    (holds : P s) : P (xs.foldl f s) := by
  induction xs generalizing s with
  | nil => exact holds
  | cons x xs ih => exact ih (each s x holds)

/-- What a reference loss leaves alone. -/
structure LossKeeps (s t : State) : Prop where
  timebase : t.timebase = s.timebase
  queues : t.queues = s.queues
  analysisQueue : t.analysisQueue = s.analysisQueue
  engine : t.engine = s.engine
  trigger : t.trigger = s.trigger
  link : t.link = s.link
  entries : t.limits.entries = s.limits.entries

theorem LossKeeps.refl (s : State) : LossKeeps s s :=
  ⟨rfl, rfl, rfl, rfl, rfl, rfl, rfl⟩

theorem LossKeeps.trans {s t u : State} (first : LossKeeps s t) (second : LossKeeps t u) : LossKeeps s u :=
  ⟨second.timebase.trans first.timebase, second.queues.trans first.queues,
    second.analysisQueue.trans first.analysisQueue, second.engine.trans first.engine, second.trigger.trans first.trigger,
    second.link.trans first.link, second.entries.trans first.entries⟩

theorem lowerInUse_entries (j : Job) (s : State) : (lowerInUse j s).limits.entries = s.limits.entries := by
  unfold lowerInUse
  split <;> rfl

theorem endJob_entries (id : Nat) (status : Ending) (s : State) :
    (endJob id status s).limits.entries = s.limits.entries := by
  unfold endJob
  split
  · rfl
  · rw [finishJob, setJob_limits, lowerInUse_entries, post_limits]

theorem loseCapture_keeps (s : State) (c : ChannelId) : LossKeeps s (loseCapture s c) := by
  unfold loseCapture
  split
  · exact .refl s
  · exact ⟨by simp, by simp, by simp, by simp, by simp, by simp, by rw [endJob_entries, stopCapture_limits]⟩

theorem loseCalibration_keeps (s : State) (c : ChannelId) : LossKeeps s (loseCalibration s c) := by
  unfold loseCalibration
  dsimp only
  (repeat' split) <;> exact ⟨rfl, rfl, rfl, rfl, rfl, rfl, rfl⟩

/-! ### The jobs of the captures (R31) -/

/-- The job has ended with a REF_LOST result (R65). -/
def EndedLost (t : State) (j : Job) : Prop :=
  jobAt t j.site = none ∧ ∃ r, slotAt t j.site = .new r ∧ r.job = j.id ∧ r.status = .refLost ∧ r.figures = noFigures

theorem slotAt_finishJob (j : Job) (w : Working) (s : State) (i : Site) : slotAt (finishJob j w s) i =
    if j.site = i then .new (storedRecord (formRecord s j w) s) else slotAt s i := by
  have put : slotAt (post (formRecord s j w) s) i =
      if j.site = i then .new (storedRecord (formRecord s j w) s) else slotAt s i := by
    rw [post_eq]
    simp only [slotAt, Fin.getElem_fin, Vector.getElem_set, Fin.val_inj]
    rfl
  have results : (finishJob j w s).results = (post (formRecord s j w) s).results := by simp [finishJob]
  rw [slotAt, results]
  exact put

/-- The job block ends the live job of an id, or, where there is none, does nothing (R65). -/
theorem endJob_cases {s : State} (named : Named s) (id : Nat) (status : Ending) :
    (endJob id status s = s ∧ ∀ i j, jobAt s i = some j → j.id ≠ id) ∨
    ∃ j, jobAt s j.site = some j ∧ j.id = id ∧ endJob id status s = finishJob j (figurelessWorking j status) s := by
  unfold endJob
  cases found : jobWithId s id with
  | none =>
    refine .inl ⟨rfl, fun i j live same => ?_⟩
    rw [← same, jobWithId_eq named live] at found
    cases found
  | some j =>
    obtain ⟨rfl, i, live⟩ := jobWithId_some found
    obtain rfl := named.1 i j live
    exact .inr ⟨j, live, rfl, rfl⟩

/-- The job of an id ends, and no other. -/
theorem endJob_ends {s : State} (named : Named s) {j : Job} (live : jobAt s j.site = some j) :
    EndedLost (endJob j.id .refLost s) j := by
  rw [endJob, jobWithId_eq named live]
  exact ⟨(jobAt_finishJob ..).trans (if_pos rfl), _, (slotAt_finishJob ..).trans (if_pos rfl), rfl, rfl, rfl⟩

theorem endJob_leaves {s : State} (named : Named s) {id : Nat} {status : Ending} {i : Site} {j : Job}
    (live : jobAt s i = some j) (other : j.id ≠ id) : jobAt (endJob id status s) i = some j := by
  rcases endJob_cases named id status with ⟨same, -⟩ | ⟨l, at_home, rfl, ends⟩
  · rw [same]
    exact live
  · rw [ends, jobAt_finishJob, if_neg]
    · exact live
    · rintro rfl
      rw [live] at at_home
      exact other (congrArg Job.id (Option.some.inj at_home))

theorem EndedLost.endJob {s : State} (named : Named s) {j : Job} (ended : EndedLost s j) (id : Nat) (status : Ending) :
    EndedLost (endJob id status s) j := by
  obtain ⟨gone, r, slot, result⟩ := ended
  rcases endJob_cases named id status with ⟨same, -⟩ | ⟨l, live, -, ends⟩
  · rw [same]
    exact ⟨gone, r, slot, result⟩
  · have apart : l.site ≠ j.site := fun same => by rw [same, gone] at live; cases live
    rw [ends]
    exact ⟨(jobAt_finishJob ..).trans ((if_neg apart).trans gone), r, (slotAt_finishJob ..).trans ((if_neg apart).trans slot),
      result⟩

theorem Named.endJob {s : State} (named : Named s) (id : Nat) (status : Ending) : Named (endJob id status s) := by
  rcases endJob_cases named id status with ⟨same, -⟩ | ⟨l, -, -, ends⟩
  · rw [same]
    exact named
  · rw [ends]
    refine named.of_sub fun i j live => ⟨j, ?_, rfl, rfl⟩
    rw [jobAt_finishJob] at live
    split at live
    · cases live
    · exact live

/-- A PAIRED context stands beside one of the same job on the other channel of its group, and a pair unit at work has such
contexts (R23). -/
structure PairsShare (s : State) : Prop where
  shared : ∀ c d ctx, (channelOfState s c).context = some ctx → ctx.mode = .paired → groupOfChannel c = groupOfChannel d →
    ∃ k, (channelOfState s d).context = some k ∧ k.mode = .paired ∧ k.job = ctx.job
  working : ∀ c, pairOf s (groupOfChannel c) ≠ .idle → ∃ ctx, (channelOfState s c).context = some ctx ∧ ctx.mode = .paired

theorem pairsShare_of_exact {s : State} (exact : PairsExact s) : PairsShare s := by
  have works (c : ChannelId) : (pairOf s (groupOfChannel c) = .idle ∧
      ∀ ctx, (channelOfState s c).context = some ctx → ctx.mode = .single) ∨
      ∃ job, ∀ d, groupOfChannel c = groupOfChannel d →
        ∃ ctx, (channelOfState s d).context = some ctx ∧ ctx.mode = .paired ∧ ctx.job = job := by
    have own := exact (groupOfChannel c) c rfl
    cases unit : pairOf s (groupOfChannel c) with
    | idle =>
      rw [unit] at own
      exact .inl ⟨rfl, own⟩
    | settling job low high =>
      refine .inr ⟨job, fun d same => ?_⟩
      have of_d := exact (groupOfChannel c) d same.symm
      rw [unit] at of_d
      exact of_d.2.2
    | capturing job low high =>
      refine .inr ⟨job, fun d same => ?_⟩
      have of_d := exact (groupOfChannel c) d same.symm
      rw [unit] at of_d
      obtain ⟨-, -, ctx, context, paired, job, -⟩ := of_d
      exact ⟨ctx, context, paired, job⟩
  refine ⟨fun c d ctx context paired same => ?_, fun c works_c => ?_⟩
  · rcases works c with ⟨-, single⟩ | ⟨job, both⟩
    · rw [single ctx context] at paired
      cases paired
    · obtain ⟨k, context', -, job'⟩ := both c rfl
      obtain rfl : k = ctx := Option.some.inj (context'.symm.trans context)
      rw [job']
      exact both d same
  · rcases works c with ⟨idle, -⟩ | ⟨job, both⟩
    · exact absurd idle works_c
    · obtain ⟨ctx, context, paired, -⟩ := both c rfl
      exact ⟨ctx, context, paired⟩

theorem jobAt_stopCapture (c : ChannelId) (mode : Mode) (s : State) : jobAt (stopCapture c mode s) = jobAt s :=
  jobAt_congr (stopCapture_jobs c mode s)

theorem loseCapture_of_none {s : State} {c : ChannelId} (none : (channelOfState s c).context = none) : loseCapture s c = s := by
  unfold loseCapture
  rw [none]

theorem loseCapture_of_some {s : State} {c : ChannelId} {ctx : CaptureContext}
    (context : (channelOfState s c).context = some ctx) :
    loseCapture s c = endJob ctx.job .refLost (stopCapture c ctx.mode s) := by
  unfold loseCapture
  rw [context]

/-- The channels that a lost capture releases. -/
theorem context_loseCapture_of_some {s : State} {c : ChannelId} {ctx : CaptureContext}
    (context : (channelOfState s c).context = some ctx) (d : ChannelId) : (channelOfState (loseCapture s c) d).context =
      if c = d ∨ ctx.mode = .paired ∧ groupOfChannel c = groupOfChannel d then none else (channelOfState s d).context := by
  have channels : channelOfState (loseCapture s c) d = channelOfState (stopCapture c ctx.mode s) d := by
    rw [loseCapture_of_some context]
    simp only [channelOfState, endJob_channels]
  rw [channels, channelOfState_stopCapture]
  split
  · exact lostChannel_context _
  · rfl

theorem pairOf_loseCapture_of_some {s : State} {c : ChannelId} {ctx : CaptureContext}
    (context : (channelOfState s c).context = some ctx) (g : Group) : pairOf (loseCapture s c) g =
      if ctx.mode = .paired ∧ groupOfChannel c = g then .idle else pairOf s g := by
  have pairs : pairOf (loseCapture s c) g = pairOf (stopCapture c ctx.mode s) g := by
    rw [loseCapture_of_some context]
    simp only [pairOf, endJob_pairs]
  have released (e : ChannelId) (u : State) : pairOf (releaseChannel e u) g = pairOf u g := by
    simp only [pairOf, releaseChannel_pairs]
  rw [pairs]
  cases mode : ctx.mode with
  | single => simp only [stopCapture, released, reduceCtorEq, false_and, if_false]
  | paired => simp only [stopCapture, pairOf_setPair, released, true_and]

theorem PairsShare.loseCapture {s : State} (pairs : PairsShare s) (c : ChannelId) : PairsShare (loseCapture s c) := by
  cases context : (channelOfState s c).context with
  | none =>
    rw [loseCapture_of_none context]
    exact pairs
  | some ctx =>
    constructor
    · intro a d held
      rw [context_loseCapture_of_some context, context_loseCapture_of_some context]
      split
      · nofun
      · next keeps =>
        intro held_a paired same
        obtain ⟨k, held_d, paired_k, job⟩ := pairs.shared a d held held_a paired same
        rw [if_neg]
        · exact ⟨k, held_d, paired_k, job⟩
        · rintro (rfl | ⟨pair, group⟩)
          · obtain rfl : k = ctx := Option.some.inj (held_d.symm.trans context)
            exact keeps (.inr ⟨paired_k, same.symm⟩)
          · exact keeps (.inr ⟨pair, group.trans same.symm⟩)
    · intro a
      rw [pairOf_loseCapture_of_some context, context_loseCapture_of_some context]
      split
      · exact fun works => absurd rfl works
      · next keeps =>
        intro works
        obtain ⟨k, held_a, paired⟩ := pairs.working a works
        rw [if_neg]
        · exact ⟨k, held_a, paired⟩
        · rintro (rfl | both)
          · obtain rfl : k = ctx := Option.some.inj (held_a.symm.trans context)
            exact keeps ⟨paired, rfl⟩
          · exact keeps both

/-- What stays true of the captures, of their jobs and of the pairs while a loss goes through the channels: a job whose
context a channel of the first state held has ended, or still stands with its context; every other job stands. -/
structure LosingCaptures (s u : State) : Prop where
  named : Named u
  pairs : PairsShare u
  contexts : ∀ d ctx, (channelOfState u d).context = some ctx → (channelOfState s d).context = some ctx
  jobs : ∀ d ctx j, (channelOfState s d).context = some ctx → jobAt s j.site = some j → ctx.job = j.id →
    EndedLost u j ∨ (channelOfState u d).context = some ctx ∧ jobAt u j.site = some j
  others : ∀ site j, jobAt s site = some j → (∀ d ctx, (channelOfState s d).context = some ctx → ctx.job ≠ j.id) →
    jobAt u site = some j

theorem LosingCaptures.start {s : State} (named : Named s) (pairs : PairsShare s) : LosingCaptures s s :=
  ⟨named, pairs, fun _ _ held => held, fun _ _ _ held live _ => .inr ⟨held, live⟩, fun _ _ live _ => live⟩

theorem LosingCaptures.next {s u : State} (losing : LosingCaptures s u) (c : ChannelId) :
    LosingCaptures s (loseCapture u c) := by
  cases context : (channelOfState u c).context with
  | none =>
    rw [loseCapture_of_none context]
    exact losing
  | some lost =>
    have stopped : Named (stopCapture c lost.mode u) := losing.named.congr' (jobAt_stopCapture c lost.mode u)
    constructor
    case named =>
      rw [loseCapture_of_some context]
      exact stopped.endJob _ _
    case pairs => exact losing.pairs.loseCapture c
    case contexts =>
      intro d ctx
      rw [context_loseCapture_of_some context]
      split
      · nofun
      · exact losing.contexts d ctx
    case jobs =>
      intro d ctx j held live job
      rcases losing.jobs d ctx j held live job with ended | ⟨stands, still⟩
      · rw [loseCapture_of_some context]
        refine .inl (EndedLost.endJob stopped ?_ _ _)
        have slots : slotAt (stopCapture c lost.mode u) j.site = slotAt u j.site := by simp [slotAt]
        rw [EndedLost, jobAt_stopCapture, slots]
        exact ended
      · replace still : jobAt (stopCapture c lost.mode u) j.site = some j := by rw [jobAt_stopCapture]; exact still
        by_cases same : j.id = lost.job
        · rw [loseCapture_of_some context, ← same]
          exact .inl (endJob_ends stopped still)
        · refine .inr ⟨?_, ?_⟩
          · rw [context_loseCapture_of_some context, if_neg]
            · exact stands
            · rintro (rfl | ⟨paired, group⟩)
              · obtain rfl : lost = ctx := Option.some.inj (context.symm.trans stands)
                exact same job.symm
              · obtain ⟨k, held_d, -, job_k⟩ := losing.pairs.shared c d lost context paired group
                obtain rfl : k = ctx := Option.some.inj (held_d.symm.trans stands)
                exact same (job.symm.trans job_k)
          · rw [loseCapture_of_some context]
            exact endJob_leaves stopped still same
    case others =>
      intro site j live apart
      rw [loseCapture_of_some context]
      exact endJob_leaves stopped ((congrFun (jobAt_stopCapture c lost.mode u) site).trans (losing.others site j live apart))
        fun same => apart c lost (losing.contexts c lost context) same.symm

/-! ### The calibrations (R52) -/

/-- What a reference loss makes of a channel's record, given its group's section. -/
def lostRecord (record : CalRecord) (section_ : CalSection) : CalRecord :=
  match record, section_ with
  | .valid _ _ _ _ _, _ => .uncal
  | .running, .busy ctx => .failed .refLost (lostSpan ctx) none
  | .running, .free => .failed .refLost none none
  | .uncal, _ => .uncal
  | .failed cause span floor, _ => .failed cause span floor

theorem lostRecord_of_valid {record : CalRecord} (valid : isValid record = true) (x : CalSection) :
    lostRecord record x = .uncal := by
  cases record <;> first | rfl | cases valid

theorem lostRecord_of_other {record : CalRecord} (invalid : isValid record = false) (still : record ≠ .running)
    (x : CalSection) : lostRecord record x = record := by
  cases record with
  | uncal => rfl
  | failed cause span floor => rfl
  | running => exact absurd rfl still
  | valid => cases invalid

theorem sectionOf_loseCalibration {s : State} {e : ChannelId} {g : Group}
    (serves : ∀ ctx, sectionOf s g = .busy ctx → ctx.channel ≠ e) : sectionOf (loseCalibration s e) g = sectionOf s g := by
  unfold loseCalibration
  dsimp only
  split
  · rfl
  · split
    · next ctx busy =>
      split
      · next own =>
        rw [sectionOf_raise, sectionOf_setChannel, sectionOf_setSection, if_neg]
        · rfl
        · rintro rfl
          exact serves ctx busy own
      · rfl
    · rfl
  · rfl
  · rfl

theorem loseCalibration_of_running {s : State} {c : ChannelId} {ctx : SectionContext} (running : recordOf s c = .running)
    (busy : sectionOf s (groupOfChannel c) = .busy ctx) (own : ctx.channel = c) : loseCalibration s c =
      raise .calDone (setChannel c { channelOfState s c with state := .idle }
        (setSection (groupOfChannel c) .free (setRecord c (.failed .refLost (lostSpan ctx) none) s))) := by
  unfold loseCalibration
  rw [running]
  dsimp only
  rw [busy]
  dsimp only
  rw [if_pos own]
  rfl

theorem loseCalibration_of_valid {s : State} {c : ChannelId} (valid : isValid (recordOf s c) = true) :
    loseCalibration s c = setRecord c .uncal s := by
  unfold loseCalibration
  cases record : recordOf s c <;> first | rfl | (rw [record] at valid; cases valid)

theorem loseCalibration_of_other {s : State} {c : ChannelId} (invalid : isValid (recordOf s c) = false)
    (still : recordOf s c ≠ .running) : loseCalibration s c = s := by
  unfold loseCalibration
  cases record : recordOf s c with
  | uncal => rfl
  | failed cause span floor => rfl
  | running => exact absurd record still
  | valid => rw [record] at invalid; cases invalid

/-- A RUNNING record has its group's section at work on its channel (R38). -/
theorem busy_of_running {s : State} (fits : (linesOf s).Fits) {d : ChannelId} (running : recordOf s d = .running) :
    ∃ ctx, sectionOf s (groupOfChannel d) = .busy ctx ∧ ctx.channel = d :=
  sectionContext_map_eq_some.mp ((fits.lent d).mp ((fits.running d).mpr running))

/-- A loss that goes through the channels makes of each record the same, whenever it comes to it. -/
theorem lostRecord_loseCalibration {s : State} (fits : (linesOf s).Fits) (e d : ChannelId) :
    lostRecord (recordOf (loseCalibration s e) d) (sectionOf (loseCalibration s e) (groupOfChannel d)) =
      lostRecord (recordOf s d) (sectionOf s (groupOfChannel d)) := by
  by_cases valid : isValid (recordOf s d) = true
  · by_cases same : e = d
    · subst same
      rw [loseCalibration_of_valid valid, recordOf_setRecord, if_pos rfl, lostRecord_of_valid valid]
      rfl
    · rw [recordOf_loseCalibration_other same, lostRecord_of_valid valid, lostRecord_of_valid valid]
  · rw [Bool.not_eq_true] at valid
    by_cases running : recordOf s d = .running
    · obtain ⟨ctx, busy, own⟩ := busy_of_running fits running
      by_cases same : e = d
      · subst same
        have record : recordOf (loseCalibration s e) e = .failed .refLost (lostSpan ctx) none := by
          rw [loseCalibration_of_running running busy own, recordOf_raise, recordOf_setChannel, recordOf_setSection,
            recordOf_setRecord, if_pos rfl]
        rw [record, running, busy]
        rfl
      · have section_ := sectionOf_loseCalibration (s := s) (e := e) (g := groupOfChannel d) fun ctx' busy' => by
          obtain rfl : ctx = ctx' := CalSection.busy.inj (busy.symm.trans busy')
          exact own ▸ Ne.symm same
        rw [recordOf_loseCalibration_other same, section_]
    · have record : recordOf (loseCalibration s e) d = recordOf s d := by
        by_cases same : e = d
        · subst same
          rw [loseCalibration_of_other valid running]
        · exact recordOf_loseCalibration_other same s
      rw [record, lostRecord_of_other valid running, lostRecord_of_other valid running]

/-- A loss of calibration touches only the states of channels. -/
theorem channelOfState_loseCalibration (s : State) (c d : ChannelId) :
    { channelOfState (loseCalibration s c) d with state := .idle } = { channelOfState s d with state := .idle } := by
  unfold loseCalibration
  dsimp only
  split
  · rfl
  · split
    · split
      · rw [channelOfState_raise, channelOfState_setChannel]
        split
        · next same => subst same; rfl
        · rfl
      · rfl
    · rfl
  · rfl
  · rfl

/-- A loss of calibration leaves jobs, results and pairs alone. -/
theorem loseCalibration_work (s : State) (c : ChannelId) : (loseCalibration s c).jobs = s.jobs ∧
    (loseCalibration s c).results = s.results ∧ (loseCalibration s c).pairs = s.pairs := by
  unfold loseCalibration
  dsimp only
  (repeat' split) <;> exact ⟨rfl, rfl, rfl⟩

theorem flagOf_loseCalibration {s : State} {flag : NoticeFlag} (c : ChannelId)
    (pending : flagOf s.notices.flags flag = true) : flagOf (loseCalibration s c).notices.flags flag = true := by
  have raised (u : State) (same : u.notices = s.notices) : flagOf (raise .calDone u).notices.flags flag = true := by
    rw [raise_notices, flagOf_raiseIn, same, pending, Bool.or_true]
  unfold loseCalibration
  dsimp only
  split
  · exact pending
  · split
    · split
      · exact raised _ rfl
      · exact raised _ rfl
    · exact raised _ rfl
  · exact pending
  · exact pending

/-- CAL_DONE is pending once the RUNNING record is lost. -/
theorem calDone_loseCalibration {s : State} (c d : ChannelId)
    (before : recordOf s d = .running ∨ flagOf s.notices.flags .calDone = true) :
    recordOf (loseCalibration s c) d = .running ∨ flagOf (loseCalibration s c).notices.flags .calDone = true := by
  rcases before with running | pending
  · by_cases same : c = d
    · subst same
      refine .inr ?_
      have raised (u : State) : flagOf (raise .calDone u).notices.flags .calDone = true :=
        flagOf_raiseIn u.notices .calDone .calDone
      unfold loseCalibration
      rw [running]
      dsimp only
      split
      · split
        · exact raised _
        · exact raised _
      · exact raised _
    · exact .inl ((recordOf_loseCalibration_other same s).trans running)
  · exact .inr (flagOf_loseCalibration c pending)

/-! ### The event (R6) -/

/-- The part once a loss has ended the captures. -/
def afterCaptures (s : State) : State :=
  (lossSequence s.freeIndex).foldl loseCapture { s with freeIndex := s.freeIndex + 1 }

/-- The part once a loss has ended the captures and the calibrations. -/
def afterCalibrations (s : State) : State :=
  ([0, 1, 2, 3] : List ChannelId).foldl loseCalibration (afterCaptures s)

theorem referenceLoss_eq (s : State) : referenceLoss s = followIdle (raise .refChange (afterCalibrations s)) :=
  rfl

theorem afterCaptures_keeps (s : State) : LossKeeps s (afterCaptures s) :=
  foldl_keeps (P := LossKeeps s) (fun u c keeps => keeps.trans (loseCapture_keeps u c)) _ ⟨rfl, rfl, rfl, rfl, rfl, rfl, rfl⟩

theorem referenceLoss_keeps (s : State) : LossKeeps s (referenceLoss s) := by
  have ended : LossKeeps s (afterCalibrations s) :=
    foldl_keeps (P := LossKeeps s) (fun u c keeps => keeps.trans (loseCalibration_keeps u c)) _ (afterCaptures_keeps s)
  rw [referenceLoss_eq]
  exact ended.trans ⟨by simp, by simp, by simp, by simp, by simp, by simp, by simp⟩

theorem afterCaptures_losing {s : State} (named : Named s) (pairs : PairsShare s) :
    LosingCaptures s (afterCaptures s) := by
  have start : LosingCaptures s { s with freeIndex := s.freeIndex + 1 } :=
    let initial := LosingCaptures.start named pairs
    ⟨named, ⟨pairs.shared, pairs.working⟩, initial.contexts, initial.jobs, initial.others⟩
  exact foldl_keeps (P := LosingCaptures s) (fun u c losing => losing.next c) _ start

theorem channelOfState_afterCaptures (s : State) (d : ChannelId) :
    channelOfState (afterCaptures s) d = lostChannel (channelOfState s d) :=
  channelOfState_foldl_loseCapture (mem_lossSequence _ d) _

theorem channelOfState_referenceLoss {s : State} (fits : (linesOf s).Fits) (left : s.timebase.refState ≠ .locked)
    (d : ChannelId) : channelOfState (referenceLoss s) d = { lostChannel (channelOfState s d) with state := .idle } := by
  have idle : (channelOfState (referenceLoss s) d).state = .idle := by
    refine ((referenceLoss_rests fits).2 ?_ d).1
    simpa [linesOf] using left
  have rest : { channelOfState (referenceLoss s) d with state := .idle } =
      { lostChannel (channelOfState s d) with state := .idle } := by
    have ended := foldl_keeps (f := loseCalibration)
      (P := fun u => { channelOfState u d with state := .idle } = { lostChannel (channelOfState s d) with state := .idle })
      (fun u c same => (channelOfState_loseCalibration u c d).trans same) [0, 1, 2, 3] (s := afterCaptures s)
      (by rw [channelOfState_afterCaptures])
    rw [referenceLoss_eq, channelOfState_followIdle, channelOfState_raise]
    exact ended
  rw [← rest, ← idle]

theorem sectionOf_referenceLoss {s : State} (fits : (linesOf s).Fits) (left : s.timebase.refState ≠ .locked) (g : Group) :
    sectionOf (referenceLoss s) g = .free := by
  have lent : (linesOf (referenceLoss s)).lent g = none := by
    have atLow := ((referenceLoss_rests fits).2 (by simpa [linesOf] using left) (lowChannel g)).2.1
    rwa [groupOf_low] at atLow
  unfold linesOf sectionContext at lent
  cases busy : sectionOf (referenceLoss s) g with
  | free => rfl
  | busy ctx => simp [busy] at lent

/-- The jobs, the slots and the pair units once the captures have ended are those of the whole event. -/
theorem work_referenceLoss (s : State) : jobAt (referenceLoss s) = jobAt (afterCaptures s) ∧
    slotAt (referenceLoss s) = slotAt (afterCaptures s) ∧ pairOf (referenceLoss s) = pairOf (afterCaptures s) := by
  have ended : (afterCalibrations s).jobs = (afterCaptures s).jobs ∧
      (afterCalibrations s).results = (afterCaptures s).results ∧ (afterCalibrations s).pairs = (afterCaptures s).pairs :=
    foldl_keeps (P := fun u => u.jobs = (afterCaptures s).jobs ∧ u.results = (afterCaptures s).results ∧
      u.pairs = (afterCaptures s).pairs) (fun u c ⟨jobs, results, pairs⟩ =>
        ⟨(loseCalibration_work u c).1.trans jobs, (loseCalibration_work u c).2.1.trans results,
          (loseCalibration_work u c).2.2.trans pairs⟩) _ ⟨rfl, rfl, rfl⟩
  obtain ⟨jobs, results, pairs⟩ := ended
  refine ⟨jobAt_congr (by rw [referenceLoss_eq]; simpa using jobs), ?_, ?_⟩
  · funext site
    simp only [referenceLoss_eq, slotAt, followIdle_results, raise_results, results]
  · funext g
    simp only [referenceLoss_eq, pairOf, followIdle_pairs, raise_pairs, pairs]

theorem pairOf_referenceLoss {s : State} (named : Named s) (pairs : PairsShare s) (g : Group) :
    pairOf (referenceLoss s) g = .idle := by
  rw [(work_referenceLoss s).2.2]
  by_contra works
  rw [← groupOf_low g] at works
  obtain ⟨ctx, context, -⟩ := (afterCaptures_losing named pairs).pairs.working _ works
  rw [channelOfState_afterCaptures, lostChannel_context] at context
  cases context

theorem afterCaptures_fits {s : State} (fits : (linesOf s).Fits) : (linesOf (afterCaptures s)).Fits :=
  (Kept.foldl loseCapture_kept (lossSequence s.freeIndex) { s with freeIndex := s.freeIndex + 1 } fits).1

theorem records_loseCapture (s : State) (c : ChannelId) :
    (loseCapture s c).records = s.records ∧ (loseCapture s c).sections = s.sections := by
  unfold loseCapture
  split <;> simp

theorem records_afterCaptures (s : State) :
    (afterCaptures s).records = s.records ∧ (afterCaptures s).sections = s.sections :=
  foldl_keeps (P := fun u => u.records = s.records ∧ u.sections = s.sections)
    (fun u c ⟨records, sections⟩ => ⟨(records_loseCapture u c).1.trans records, (records_loseCapture u c).2.trans sections⟩)
    _ ⟨rfl, rfl⟩

/-- The calibrations a loss goes through: the lines stay fit, each record is to become what it was to become, and CAL_DONE is
pending once a RUNNING record is lost. -/
theorem recordOf_afterCalibrations {s : State} (fits : (linesOf s).Fits) (d : ChannelId) :
    recordOf (afterCalibrations s) d = lostRecord (recordOf s d) (sectionOf s (groupOfChannel d)) := by
  obtain ⟨records, sections⟩ := records_afterCaptures s
  have became := foldl_keeps (f := loseCalibration)
    (P := fun u => (linesOf u).Fits ∧ lostRecord (recordOf u d) (sectionOf u (groupOfChannel d)) =
      lostRecord (recordOf s d) (sectionOf s (groupOfChannel d)))
    (fun u c ⟨fit, same⟩ => ⟨(loseCalibration_kept u c fit).1, (lostRecord_loseCalibration fit c d).trans same⟩)
    [0, 1, 2, 3] (s := afterCaptures s)
    ⟨afterCaptures_fits fits, by simp only [recordOf, sectionOf, records, sections]⟩
  obtain ⟨invalid, still⟩ := foldl_establishes (f := loseCalibration)
    (P := fun u e => isValid (recordOf u e) = false ∧ recordOf u e ≠ .running) recordOf_loseCalibration_same
    (fun u e c holds => by
      by_cases same : c = e
      · exact same ▸ recordOf_loseCalibration_same u c
      · rw [recordOf_loseCalibration_other same]
        exact holds) (mem_allChannels d) (afterCaptures s)
  exact (lostRecord_of_other invalid still _).symm.trans became.2

theorem recordOf_referenceLoss {s : State} (fits : (linesOf s).Fits) (d : ChannelId) :
    recordOf (referenceLoss s) d = lostRecord (recordOf s d) (sectionOf s (groupOfChannel d)) := by
  rw [referenceLoss_eq, recordOf_followIdle, recordOf_raise]
  exact recordOf_afterCalibrations fits d

theorem refChange_referenceLoss (s : State) : (referenceLoss s).notices.flags.refChange = true :=
  flagOf_followIdle (flag := .refChange) (flagOf_raiseIn (afterCalibrations s).notices .refChange .refChange)

theorem calDone_referenceLoss {s : State} (fits : (linesOf s).Fits) {d : ChannelId} (running : recordOf s d = .running) :
    (referenceLoss s).notices.flags.calDone = true := by
  have start : recordOf (afterCaptures s) d = .running := by
    rw [recordOf, (records_afterCaptures s).1]
    exact running
  have raised := foldl_keeps (f := loseCalibration)
    (P := fun u => recordOf u d = .running ∨ flagOf u.notices.flags .calDone = true)
    (fun u c before => calDone_loseCalibration c d before) [0, 1, 2, 3] (s := afterCaptures s) (.inl start)
  have pending : flagOf (afterCalibrations s).notices.flags .calDone = true := by
    refine raised.resolve_left fun still => ?_
    obtain ⟨ctx, busy, -⟩ := busy_of_running fits running
    have lost := recordOf_afterCalibrations fits d
    rw [running, busy] at lost
    exact absurd (lost.symm.trans still) nofun
  exact flagOf_followIdle (flag := .calDone)
    ((flagOf_raiseIn (afterCalibrations s).notices .refChange .calDone).trans (by rw [pending, Bool.or_true]))

theorem jobs_referenceLoss {s : State} (named : Named s) (pairs : PairsShare s) {d : ChannelId} {ctx : CaptureContext}
    {j : Job} (context : (channelOfState s d).context = some ctx) (live : jobAt s j.site = some j) (job : ctx.job = j.id) :
    EndedLost (referenceLoss s) j := by
  obtain ⟨jobs, slots, -⟩ := work_referenceLoss s
  rw [EndedLost, jobs, slots]
  refine ((afterCaptures_losing named pairs).jobs d ctx j context live job).resolve_right fun stands => ?_
  obtain ⟨held, -⟩ := stands
  rw [channelOfState_afterCaptures, lostChannel_context] at held
  cases held

theorem otherJobs_referenceLoss {s : State} (named : Named s) (pairs : PairsShare s) {site : Site} {j : Job}
    (live : jobAt s site = some j)
    (apart : ∀ d ctx, (channelOfState s d).context = some ctx → ctx.job ≠ j.id) :
    jobAt (referenceLoss s) site = some j := by
  rw [(work_referenceLoss s).1]
  exact (afterCaptures_losing named pairs).others site j live apart

theorem lostSpan_of_incomplete {ctx : SectionContext} (incomplete : ctx.hits ≠ 65536) : lostSpan ctx = none :=
  if_neg incomplete

theorem lostSpan_of_complete {ctx : SectionContext} {low high : Nat} (complete : ctx.hits = 65536)
    (span : HitSpan ctx.histogram low high) : lostSpan ctx = some (low, high) := by
  exact (if_pos complete).trans (by rw [spanLowOf_eq span, spanHighOf_eq span])

/-! ### The commands that end LOCKED (R3, R4) -/

theorem reportUnlock_of_locked {s : State} (locked : s.timebase.refState = .locked) :
    reportUnlock s = referenceLoss
      { s with timebase := { s.timebase with multiplier := .unlock, gateMark := true, refState := .acquiring, run := 0 } } :=
  if_pos locked

theorem afterGate_of_outside {state : RefState} {run edges : Nat} {inLock : Bool}
    (outside : ¬(99950 ≤ edges ∧ edges ≤ 100050)) :
    afterGate state run (classifyGate edges) inLock = (if edges = 0 then .absent else .outOfRange, 0) := by
  unfold classifyGate
  by_cases empty : edges = 0
  · rw [if_pos empty, if_pos empty]
    rfl
  · rw [if_neg empty, if_neg outside, if_neg empty]
    rfl

theorem endGate_of_outside {edges : Nat} {s : State} (locked : s.timebase.refState = .locked)
    (outside : ¬(99950 ≤ edges ∧ edges ≤ 100050)) : endGate edges s = referenceLoss
      { s with timebase :=
        { newGate s.timebase with refState := if edges = 0 then .absent else .outOfRange, run := 0 } } := by
  unfold endGate
  dsimp only
  rw [afterGate_of_outside outside]
  refine if_pos ⟨locked, ?_⟩
  dsimp only
  split <;> simp

theorem lostChannel_eq (ch : Channel) : { lostChannel ch with state := .idle, bank0 := ch.bank0, bank1 := ch.bank1 } =
    { ch with state := .idle, context := none } := by
  cases context : ch.context with
  | none => rw [lostChannel_of_none context, ← context]
  | some ctx =>
    rw [lostChannel_of_some context]
    unfold withBank
    split <;> rfl

theorem bankOf_lostChannel_same {ch : Channel} {ctx : CaptureContext} (context : ch.context = some ctx) :
    bankOf (lostChannel ch) ctx.bank = { state := .free, record := [] } := by
  rw [lostChannel_of_some context]
  exact (bankOf_withBank ch ctx.bank ctx.bank .empty).trans (if_pos rfl)

theorem bankOf_lostChannel_other {ch : Channel} {b : Fin 2} (apart : ∀ ctx, ch.context = some ctx → ctx.bank ≠ b) :
    bankOf (lostChannel ch) b = bankOf ch b := by
  cases context : ch.context with
  | none => rw [lostChannel_of_none context]
  | some ctx =>
    rw [lostChannel_of_some context]
    exact (bankOf_withBank ch ctx.bank b .empty).trans (if_neg (Ne.symm (apart ctx context)))

/-- Either command that ends LOCKED is the loss of the reference, with the timebase moved on. -/
theorem exec_of_leaves {c : Instr} {s : State} (locked : s.timebase.refState = .locked)
    (leaves : c = .multiplierUnlockReport ∨
      ∃ edges, c = .gateEnd edges ∧ ¬(99950 ≤ s.timebase.gateEdges + edges ∧ s.timebase.gateEdges + edges ≤ 100050)) :
    ∃ x : Timebase, x.refState ≠ .locked ∧ x.run = 0 ∧ x.coarse = s.timebase.coarse ∧
      (c = .multiplierUnlockReport → x.refState = .acquiring ∧ x.multiplier = .unlock ∧ x.gateMark = true) ∧
      (∀ edges, c = .gateEnd edges →
        x.refState = if s.timebase.gateEdges + edges = 0 then .absent else .outOfRange) ∧
      exec c s = .next (referenceLoss { s with timebase := x }) := by
  rcases leaves with rfl | ⟨edges, rfl, outside⟩
  · exact ⟨{ s.timebase with multiplier := .unlock, gateMark := true, refState := .acquiring, run := 0 }, nofun, rfl, rfl,
      fun _ => ⟨rfl, rfl, rfl⟩, nofun, congrArg Host.Outcome.next (reportUnlock_of_locked locked)⟩
  · refine ⟨{ newGate s.timebase with
      refState := if s.timebase.gateEdges + edges = 0 then .absent else .outOfRange, run := 0 }, ?_, rfl, rfl, nofun, ?_,
      congrArg Host.Outcome.next (endGate_of_outside locked outside)⟩
    · dsimp only
      split <;> simp
    · rintro _ ⟨⟩
      rfl

/-- Settles O11: either command is the loss of the reference with the timebase moved on; what the event ends is said part by
part. -/
theorem referenceLossEndsCapturesAndCalibrations : Obligations.ReferenceLossEndsCapturesAndCalibrations := by
  unfold Obligations.ReferenceLossEndsCapturesAndCalibrations
  intro c s locked ids channels exact leaves
  have named : Named s := ((idsDistinct_iff s).mp ids).1
  have pairs : PairsShare s := pairsShare_of_exact exact
  have fits : (linesOf s).Fits := (channelsFit_iff s).mp channels
  obtain ⟨x, left, run, coarse, report, gate, executes⟩ := exec_of_leaves locked leaves
  have fits' : (linesOf { s with timebase := x }).Fits := linesFits_of_timebase fits x
  have named' : Named { s with timebase := x } := named
  have pairs' : PairsShare { s with timebase := x } := ⟨pairs.shared, pairs.working⟩
  have keeps := referenceLoss_keeps { s with timebase := x }
  have channel (d : ChannelId) : channelOfState (referenceLoss { s with timebase := x }) d =
      { lostChannel (channelOfState s d) with state := .idle } := channelOfState_referenceLoss fits' left d
  have record (d : ChannelId) : recordOf (referenceLoss { s with timebase := x }) d =
      lostRecord (recordOf s d) (sectionOf s (groupOfChannel d)) := recordOf_referenceLoss fits' d
  refine ⟨_, executes, by rw [keeps.timebase]; exact left, by rw [keeps.timebase]; exact run,
    by rw [keeps.timebase]; exact coarse, fun is => by rw [keeps.timebase]; exact report is,
    fun edges is => by rw [keeps.timebase]; exact gate edges is, fun d => ?_,
    fun g => ⟨pairOf_referenceLoss named' pairs' g, sectionOf_referenceLoss fits' left g⟩,
    fun d valid => (record d).trans (lostRecord_of_valid valid _), fun d running => ?_,
    fun d invalid still => (record d).trans (lostRecord_of_other invalid still _), refChange_referenceLoss _,
    fun d running => calDone_referenceLoss fits' running,
    fun d ctx j context live job => jobs_referenceLoss named' pairs' context live job,
    fun site j live apart => otherJobs_referenceLoss named' pairs' live apart, keeps.queues, keeps.analysisQueue,
    keeps.engine, keeps.trigger, keeps.link, keeps.entries⟩
  · rw [channel d]
    exact ⟨lostChannel_eq _, fun ctx context => bankOf_lostChannel_same context,
      fun b apart => bankOf_lostChannel_other apart⟩
  · obtain ⟨ctx, busy, own⟩ := busy_of_running fits running
    have failed : recordOf (referenceLoss { s with timebase := x }) d = .failed .refLost (lostSpan ctx) none := by
      rw [record d, running, busy]
      rfl
    refine ⟨ctx, busy, own, fun incomplete => ?_, fun low high complete length ordered bound low_hit high_hit outside => ?_⟩
    · rw [failed, lostSpan_of_incomplete incomplete]
    · rw [failed, lostSpan_of_complete complete ⟨ordered, length ▸ bound, low_hit, high_hit, outside⟩]

end Sys2Proof.Machine
end

section
/-! SUPPORT. The analysis engine (R34, R89 to R93, R97, R100, R110 to R118, R131): how it takes items, what the ends of its
passes form, and what it posts. -/

namespace Sys2Proof.Machine

/-! ### Items (R34, R89 to R91) -/

theorem takeItem_of_still {s : State} (still : s.engine ≠ .idle ∨ s.analysisQueue = []) : takeItem s = s := by
  unfold takeItem
  split
  · next idle queue => exact still.elim (fun busy => absurd idle busy) fun empty => by rw [empty] at queue; cases queue
  · rfl

theorem takeItem_of_idle {item : Item} {rest : List Item} {s : State} (idle : s.engine = .idle)
    (queue : s.analysisQueue = item :: rest) : takeItem s =
      setJobState item.job .analysing { s with analysisQueue := rest, engine := .timePass item emptyWorking } := by
  unfold takeItem
  rw [idle, queue]

/-- An item that gives up its banks touches nothing else of a channel. -/
theorem channelOfState_freeBank (c d : ChannelId) (b : Fin 2) (s : State) : channelOfState (freeBank c b s) d =
    if c = d then withBank (channelOfState s d) b .empty else channelOfState s d := by
  rw [freeBank, channelOfState_setChannel]
  split
  · next same => rw [same]
  · rfl

theorem withBank_rest (ch : Channel) (b : Fin 2) (x y z : Bank) :
    { withBank ch b x with bank0 := y, bank1 := z } = { ch with bank0 := y, bank1 := z } := by
  unfold withBank
  split <;> rfl

theorem freeBank_rest (c d : ChannelId) (b : Fin 2) (s : State) (y z : Bank) :
    { channelOfState (freeBank c b s) d with bank0 := y, bank1 := z } =
      { channelOfState s d with bank0 := y, bank1 := z } := by
  rw [channelOfState_freeBank]
  split
  · exact withBank_rest _ b .empty y z
  · rfl

theorem freeItemBanks_rest (item : Item) (d : ChannelId) (s : State) (y z : Bank) :
    { channelOfState (freeItemBanks item s) d with bank0 := y, bank1 := z } =
      { channelOfState s d with bank0 := y, bank1 := z } := by
  unfold freeItemBanks
  dsimp only
  split
  · exact (freeBank_rest _ d _ _ y z).trans (freeBank_rest _ d _ s y z)
  · exact freeBank_rest _ d _ s y z

theorem bankOf_freeItemBanks (item : Item) (s : State) (c : ChannelId) (b : Fin 2) :
    bankOf (channelOfState (freeItemBanks item s) c) b =
      if (c, b) ∈ banksHeld item then .empty else bankOf (channelOfState s c) b :=
  congrFun (congrFun (congrArg View.bank (viewOf_freeItemBanks item s)) c) b

theorem mem_banksHeld_iff (item : Item) (c : ChannelId) (b : Fin 2) : (c, b) ∈ banksHeld item ↔
    ∃ leg, (leg = item.first ∨ item.second = some leg) ∧ leg.channel = c ∧ leg.bank = b := by
  simp only [banksHeld, List.mem_map, List.mem_cons, Option.mem_toList, Prod.mk.injEq, eq_comm]

/-- Settles O43: by the engine and the queue; the banks given up are those the item holds. -/
theorem engineTakesItemsInOrder : Obligations.EngineTakesItemsInOrder := by
  unfold Obligations.EngineTakesItemsInOrder
  refine ⟨fun s => takeItem_of_still, fun item rest s => takeItem_of_idle, fun item s => rfl, fun item s _ => ?_⟩
  refine ⟨fun c b held => ?_, fun c b free => ?_, fun c => freeItemBanks_rest item c s _ _⟩
  · rw [bankOf_freeItemBanks, if_pos ((mem_banksHeld_iff item c b).mpr held)]
    rfl
  · rw [bankOf_freeItemBanks, if_neg fun held => free ((mem_banksHeld_iff item c b).mp held)]

/-! ### The time pass (R92, R97, R100, R110, R111, R114 to R117) -/

theorem endTimePass_eq {s : State} {item : Item} {empty : Working} {j : Job} (engine : s.engine = .timePass item empty)
    (job : jobWithId s item.job = some j) :
    endTimePass s = { s with engine := afterTimePass item j (itemRecords s item j) } := by
  simp only [endTimePass, engine, job]
  rfl

/-- With the window half an expected interval, at most one of three alignments applies. -/
theorem alignPair_eq (fNom prescale length : Nat) (t1 t2 : List Timestamp) : alignPair fNom prescale length t1 t2 =
    let difference := 2 * (t1.headD 0 - t2.headD 0).toInt * fNom
    let window : Int := 1638400000000 * prescale
    if |difference| < window then some (t1.take length, t2.take length, false)
    else if |difference + 2 * window| < window then some (t1.drop 1, t2.take length, true)
    else if |difference - 2 * window| < window then some (t1.take length, t2.drop 1, true)
    else none := by
  simp only [alignPair, signedDifference, Int.natCast_natAbs]

theorem not_aligned_of_late {d w : Int} (late : |d + 2 * w| < w) : ¬|d| < w := by
  rw [abs_lt] at *
  omega

theorem not_aligned_of_early {d w : Int} (early : |d - 2 * w| < w) : ¬|d| < w ∧ ¬|d + 2 * w| < w := by
  simp only [abs_lt] at *
  omega

/-- CAL_STALE of an item (R110). -/
theorem itemStale_eq (item : Item) :
    itemStale item = (item.first.snapshot.stale || item.second.any fun leg => leg.snapshot.stale) := by
  unfold itemStale
  cases item.second <;> rfl

theorem withFigure_freqOffset (offset : Int) : withFigure noFigures .freqOffset (offsetFigure offset) =
    #v[{ value := some offset }, {}, {}, {}, {}, {}, {}, {}, {}, {}, {}, {}, {}, {}] :=
  rfl

theorem timeFigures_eq (t : List Timestamp) (second : Option (List Timestamp)) (j : Job) (floorSquare : Nat) :
    timeFigures t second j floorSquare =
      #v[{ value := some (recordOffset t j) }, second.elim (tieRms t floorSquare) (tieRmsPaired t), tiePp t,
        perRms t floorSquare, c2cRms t floorSquare, c2cPeak t, {}, {}, {}, {}, {}, {}, {}, {}] := by
  cases second <;> rfl

/-- The segment length is reduced exactly when the one requested is longer than the record (R116). -/
theorem exponentUsed_ne_iff {requested length : Nat} (long : 1024 ≤ length) :
    exponentUsed requested length ≠ requested ↔ length < 2 ^ requested := by
  unfold exponentUsed
  split
  · next fits => exact ⟨fun other => absurd rfl other, fun short => absurd fits (Nat.not_le.mpr short)⟩
  · next short =>
    have less : Nat.log2 length < requested := (Nat.log2_lt (by omega)).mpr (Nat.not_le.mp short)
    exact ⟨fun _ => Nat.not_le.mp short, fun _ => less.ne⟩

/-- The record flags of an item's result (R110). -/
def itemFlags (item : Item) (j : Job) (realigned : Bool) : RecordFlags :=
  { prescaleAdjusted := j.adjusted
    calStale := item.first.snapshot.stale || item.second.any fun leg => leg.snapshot.stale
    realigned }

theorem timeFlags_eq (item : Item) (j : Job) (realigned : Bool) : timeFlags item j realigned = itemFlags item j realigned := by
  rw [timeFlags, itemStale_eq]
  rfl

/-- Where the engine goes from a record with the TIE figure given (R92, R100, R111, R114 to R117). -/
def engineAfterRecord (item : Item) (j : Job) (t : List Timestamp) (tie : Figure) (floorSquare : Nat) (realigned : Bool) :
    Engine :=
  let flags := itemFlags item j realigned
  let requested := j.exponent.getD 10
  let exponent := if 2 ^ requested ≤ j.length then requested else Nat.log2 j.length
  let offset := frequencyOffset (meanInterval t) j.fNom j.prescale
  let formed : Working :=
    { status := .complete, flags, segmentExponent := none
      figures := #v[{ value := some offset }, tie, tiePp t, perRms t floorSquare, c2cRms t floorSquare, c2cPeak t,
        {}, {}, {}, {}, {}, {}, {}, {}] }
  if 20000000 < offset.natAbs then
    .verdict item
      { formed with
        status := .offNominal
        figures := #v[{ value := some offset }, {}, {}, {}, {}, {}, {}, {}, {}, {}, {}, {}, {}, {}] }
  else if j.spectral = false then .verdict item formed
  else if j.length < 1024 then .verdict item { formed with flags := { flags with spectralSkipped := true } }
  else
    .spectralPass item
      { formed with flags := { flags with segmentReduced := decide (j.length < 2 ^ requested) } }
      { exponent, segments := j.length / 2 ^ exponent, segment := 0
        sums := List.replicate (2 ^ exponent / 2 - 1) (List.replicate (2 ^ exponent / 2) 0) }

theorem afterTimeFigures_of_time {item : Item} {j : Job} (w : Working) (time : j.spectral = false) :
    afterTimeFigures item j w = .verdict item w := by
  unfold afterTimeFigures
  rw [time]
  rfl

theorem afterTimeFigures_of_short {item : Item} {j : Job} (w : Working) (spectral : j.spectral = true)
    (short : j.length < 1024) :
    afterTimeFigures item j w = .verdict item { w with flags := { w.flags with spectralSkipped := true } } := by
  unfold afterTimeFigures
  rw [spectral]
  exact if_pos short

theorem afterTimeFigures_of_long {item : Item} {j : Job} (w : Working) (spectral : j.spectral = true)
    (long : 1024 ≤ j.length) : afterTimeFigures item j w = .spectralPass item
      { w with flags := { w.flags with segmentReduced := decide (j.length < 2 ^ j.exponent.getD 10) } }
      (newSpectrum (j.exponent.getD 10) j.length) := by
  have reduced : decide ((newSpectrum (j.exponent.getD 10) j.length).exponent ≠ j.exponent.getD 10) =
      decide (j.length < 2 ^ j.exponent.getD 10) := decide_eq_decide.mpr (exponentUsed_ne_iff long)
  rw [← reduced]
  unfold afterTimeFigures
  rw [spectral]
  exact if_neg (Nat.not_lt.mpr long)

theorem afterTimePass_of_records (item : Item) (j : Job) (t : List Timestamp) (second : Option (List Timestamp))
    (realigned : Bool) : afterTimePass item j (some (t, second, realigned)) =
      engineAfterRecord item j t (second.elim (tieRms t (floorSquareOf item j)) (tieRmsPaired t)) (floorSquareOf item j)
        realigned := by
  unfold afterTimePass engineAfterRecord
  dsimp only
  rw [timeFlags_eq, timeFigures_eq, withFigure_freqOffset]
  by_cases beyond : offsetBound < (recordOffset t j).natAbs
  · exact (if_pos beyond).trans (if_pos beyond).symm
  refine (if_neg beyond).trans (Eq.trans ?_ (if_neg beyond).symm)
  cases spectral : j.spectral with
  | false => exact (afterTimeFigures_of_time _ spectral).trans (if_pos rfl).symm
  | true =>
    refine Eq.trans ?_ (if_neg Bool.noConfusion).symm
    by_cases short : j.length < 1024
    · exact (afterTimeFigures_of_short _ spectral short).trans (if_pos short).symm
    · exact (afterTimeFigures_of_long _ spectral (Nat.not_lt.mp short)).trans (if_neg short).symm

theorem afterTimePass_of_slip (item : Item) (j : Job) : afterTimePass item j none = .verdict item
    { status := .pairSlip, flags := itemFlags item j false, segmentExponent := none, figures := noFigures } := by
  rw [← timeFlags_eq]
  rfl

theorem itemRecords_of_single {s : State} {item : Item} (j : Job) (single : item.second = none) :
    itemRecords s item j = some (legRecord s item.first, none, false) := by
  simp only [itemRecords, single]

theorem itemRecords_of_paired {s : State} {item : Item} {leg : Leg} (j : Job) (paired : item.second = some leg) :
    itemRecords s item j =
      (alignPair j.fNom j.prescale j.length (legRecord s item.first) (legRecord s leg)).map fun r =>
        (r.1, some r.2.1, r.2.2) := by
  simp only [itemRecords, paired]

/-- Floor correction applies to SINGLE items (R108). -/
theorem floorSquareOf_of_single {item : Item} (j : Job) (single : item.second = none) :
    floorSquareOf item j = if j.floorCorrection then item.first.snapshot.floor ^ 2 else 0 := by
  simp only [floorSquareOf, single, Option.isNone_none, Bool.and_true]

theorem floorSquareOf_of_paired {item : Item} {leg : Leg} (j : Job) (paired : item.second = some leg) :
    floorSquareOf item j = 0 := by
  simp [floorSquareOf, paired]

/-- Settles O44: the alignment says which records are used, and the frequency offset, the job and N where the engine goes. -/
theorem timePassEndFormsTheWorkingResult : Obligations.TimePassEndFormsTheWorkingResult := by
  unfold Obligations.TimePassEndFormsTheWorkingResult
  intro item empty j s engine job
  have ends : exec .timePassEnd s = .next { s with engine := afterTimePass item j (itemRecords s item j) } :=
    congrArg Host.Outcome.next (endTimePass_eq engine job)
  refine ⟨fun single => ?_, fun leg paired => ?_⟩
  · rw [ends, itemRecords_of_single j single, afterTimePass_of_records, floorSquareOf_of_single j single]
    rfl
  · have records := itemRecords_of_paired (s := s) j paired
    rw [alignPair_eq] at records
    have uses (t1 t2 : List Timestamp) (realigned : Bool) (same : itemRecords s item j = some (t1, some t2, realigned)) :
        exec .timePassEnd s = .next { s with engine := engineAfterRecord item j t1 (tieRmsPaired t1 t2) 0 realigned } := by
      rw [ends, same, afterTimePass_of_records, floorSquareOf_of_paired j paired]
      rfl
    refine ⟨fun aligned => ?_, fun late => ?_, fun early => ?_, fun apart apart' apart'' => ?_⟩
    · exact uses _ _ _ (records.trans (congrArg _ (if_pos aligned)))
    · exact uses _ _ _ (records.trans (congrArg _ ((if_neg (not_aligned_of_late late)).trans (if_pos late))))
    · obtain ⟨notAligned, notLate⟩ := not_aligned_of_early early
      exact uses _ _ _ (records.trans (congrArg _ ((if_neg notAligned).trans ((if_neg notLate).trans (if_pos early)))))
    · have slips : itemRecords s item j = none := records.trans (congrArg _ ((if_neg (not_lt.mpr apart)).trans
        ((if_neg (not_lt.mpr apart')).trans (if_neg (not_lt.mpr apart'')))))
      rw [ends, slips, afterTimePass_of_slip]
      rfl

/-! ### The spectral pass (R114, R118, R131) -/

/-- Figures placed in list order from a first one on: each takes its place, and the others stay. -/
theorem getElem_withFigures {names : List FigureName} {base : Nat}
    (places : ∀ k (within : k < names.length), (figureIndex names[k]).val = base + k) {formed : List Figure}
    (fit : formed.length ≤ names.length) (figures : Figures) (i : Nat) (bound : i < 14) :
    (withFigures names formed figures)[i] =
      if base ≤ i then (formed[i - base]?).getD figures[i] else figures[i] := by
  induction names generalizing base formed figures with
  | nil =>
    obtain rfl : formed = [] := List.length_eq_zero_iff.mp (Nat.le_zero.mp fit)
    simp [withFigures]
  | cons name names ih =>
    cases formed with
    | nil => simp [withFigures]
    | cons f formed =>
      have own : (figureIndex name).val = base := places 0 (by simp)
      have later : ∀ k (within : k < names.length), (figureIndex names[k]).val = base + 1 + k := fun k within => by
        have place := places (k + 1) (by simpa using within)
        simp only [List.getElem_cons_succ] at place
        omega
      have rest := ih later (Nat.le_of_succ_le_succ fit) (withFigure figures name f)
      have put : (withFigure figures name f)[i] = if base = i then f else figures[i] := by
        rw [withFigure, ← own]
        exact Vector.getElem_set ..
      rw [show withFigures (name :: names) (f :: formed) figures = withFigures names formed (withFigure figures name f) from rfl,
        rest, put]
      rcases lt_trichotomy i base with below | same | above
      · rw [if_neg (by omega), if_neg (by omega), if_neg (by omega)]
      · have first : i - base = 0 := by omega
        rw [if_neg (by omega), if_pos same.symm, if_pos same.ge, first]
        rfl
      · have shift : i - base = i - (base + 1) + 1 := by omega
        rw [if_pos (by omega), if_neg (by omega), if_pos above.le, shift, List.getElem?_cons_succ]

theorem bandPlaces : ∀ k (within : k < ([.band0, .band1, .band2, .band3] : List FigureName).length),
    (figureIndex ([.band0, .band1, .band2, .band3] : List FigureName)[k]).val = 6 + k := by
  decide

theorem spotPlaces : ∀ k (within : k < ([.spot0, .spot1, .spot2, .spot3] : List FigureName).length),
    (figureIndex ([.spot0, .spot1, .spot2, .spot3] : List FigureName)[k]).val = 10 + k := by
  decide

theorem getElem_spectralFigures (sp : Spectrum) {j : Job} (floorSquare : Nat) (figures : Figures)
    (bands : j.bands.length ≤ 4) (spots : j.spots.length ≤ 4) (i : Nat) (bound : i < 14) :
    (spectralFigures sp j floorSquare figures)[i] =
      if 10 ≤ i then ((j.spots.map (spotFigure sp j.fNom j.prescale floorSquare))[i - 10]?).getD
        (if 6 ≤ i then ((j.bands.map (bandFigure sp j.fNom j.prescale floorSquare))[i - 6]?).getD figures[i] else figures[i])
      else if 6 ≤ i then ((j.bands.map (bandFigure sp j.fNom j.prescale floorSquare))[i - 6]?).getD figures[i]
      else figures[i] := by
  rw [spectralFigures, getElem_withFigures spotPlaces (by simpa using spots),
    getElem_withFigures bandPlaces (by simpa using bands)]

theorem endSpectralPass_eq {s : State} {item : Item} {w : Working} {sp : Spectrum} {j : Job}
    (engine : s.engine = .spectralPass item w sp) (job : jobWithId s item.job = some j) : endSpectralPass s =
      { s with engine := .verdict item (withSpectral w
          (addSegments (itemTies s item j).1 (itemTies s item j).2 (sp.segments - sp.segment) sp) j (floorSquareOf item j)) } := by
  have finished : finishSegments (segmentsLeft s) s = setEngine (.spectralPass item w
      (addSegments (itemTies s item j).1 (itemTies s item j).2 (sp.segments - sp.segment) sp)) s := by
    simp only [finishSegments, segmentsLeft, engine, job]
  have stillLive (e : Engine) : jobWithId (setEngine e s) item.job = some j := job
  rw [endSpectralPass, finished]
  simp only [formSpectral, setEngine_engine, stillLive]
  rfl

/-- Finishing segments leaves the segment length. -/
theorem addSegments_exponent (tie1 tie2 : List Int) (n : Nat) (sp : Spectrum) :
    (addSegments tie1 tie2 n sp).exponent = sp.exponent := by
  induction n generalizing sp with
  | zero => rfl
  | succ n ih => exact ih (addSegment tie1 tie2 sp)

/-- Settles O48: the figures formed, place by place. -/
theorem spectralPassEndFormsItsFigures : Obligations.SpectralPassEndFormsItsFigures := by
  unfold Obligations.SpectralPassEndFormsItsFigures
  intro item w sp j s engine job bands spots ties finished floorSquare
  have placed := getElem_spectralFigures finished floorSquare w.figures bands spots
  refine ⟨spectralFigures finished j floorSquare w.figures, ?_, fun i early => ?_, fun b => ?_, fun i => ?_⟩
  · refine congrArg Host.Outcome.next ((endSpectralPass_eq engine job).trans ?_)
    rw [withSpectral, addSegments_exponent]
    rfl
  · refine (placed i.val i.isLt).trans ?_
    rw [if_neg (by omega), if_neg (by omega)]
    rfl
  · refine (placed (6 + b.val) (by omega)).trans ?_
    rw [if_neg (by omega), if_pos (by omega), Nat.add_sub_cancel_left, List.getElem?_map]
    cases j.bands[b.val]? <;> rfl
  · refine (placed (10 + i.val) (by omega)).trans ?_
    have beyond : ¬10 + i.val - 6 < j.bands.length := by omega
    rw [if_pos (by omega), if_pos (by omega), Nat.add_sub_cancel_left, List.getElem?_map, List.getElem?_map,
      List.getElem?_eq_none (Nat.not_lt.mp beyond)]
    cases j.spots[i.val]? <;> rfl

/-! ### The posting (R93) -/

/-- The limit table once a job has ended: its entry's in-use count falls (R143). -/
def limitsWithout (j : Job) (s : State) : LimitTable :=
  (lowerInUse j s).limits

theorem limitsWithout_of_unnamed {j : Job} (s : State) (unnamed : j.limit = none) : limitsWithout j s = s.limits := by
  simp only [limitsWithout, lowerInUse, unnamed]

theorem limitsWithout_of_named {j : Job} (s : State) {index : Fin 64} (named : j.limit = some index) :
    limitsWithout j s = { s.limits with inUse := s.limits.inUse.set index (inUseOf s index - 1) } := by
  simp only [limitsWithout, lowerInUse, named]
  rfl

theorem limitsWithout_congr (j : Job) {s t : State} (same : t.limits = s.limits) : limitsWithout j t = limitsWithout j s := by
  cases named : j.limit with
  | none => rw [limitsWithout_of_unnamed t named, limitsWithout_of_unnamed s named, same]
  | some index => rw [limitsWithout_of_named t named, limitsWithout_of_named s named, inUseOf, inUseOf, same]

/-- What the end of a job does to the part (R65, R93). -/
theorem finishJob_eq (j : Job) (w : Working) (s : State) : finishJob j w s =
    { s with
      results :=
        { slots := s.results.slots.set j.site (.new (storedRecord (formRecord s j w) s))
          completion := s.results.completion.filter (· != j.site) ++ [j.site] }
      notices := if s.results.completion = [] then raiseIn s.notices .resultReady else s.notices
      limits := limitsWithout j s
      jobs := s.jobs.set j.site none } := by
  have lowered (u : State) : lowerInUse j u = { u with limits := limitsWithout j u } := by
    unfold limitsWithout
    rw [lowerInUse_eq]
  rw [finishJob, lowered, limitsWithout_congr j (post_limits (formRecord s j w) s), post_eq]
  rfl

/-- The entry a job named is read from the table alone. -/
theorem entryOf_eq (s : State) (j : Job) : entryOf s j = j.limit.bind fun index => s.limits.entries[index] := by
  unfold entryOf
  cases j.limit <;> rfl

/-- Settles O49: the posting is the end of the job with its banks freed, before the engine takes the next item. -/
theorem enginePostPostsAndTakesTheNext : Obligations.EnginePostPostsAndTakesTheNext := by
  unfold Obligations.EnginePostPostsAndTakesTheNext
  intro item w j s engine ids live id entry judged overwritten record posted
  have job : jobWithId s item.job = some j := id ▸ jobWithId_eq ((idsDistinct_iff s).mp ids).1 live
  have posts : enginePost s = postItem item w j s := by simp only [enginePost, engine, job]
  have limits : limitsWithout j (freeItemBanks item s) = limitsWithout j s :=
    limitsWithout_congr j (freeItemBanks_limits item s)
  have stored : storedRecord (formRecord (freeItemBanks item s) j w) (freeItemBanks item s) = record := by
    rw [formRecord, entryOf_eq, freeItemBanks_limits, storedRecord, slotAt, freeItemBanks_results]
    exact congrArg (fun o => ({ record with flags := { w.flags with overwritten := o } } : ResultRecord)) (Bool.or_comm _ _)
  have ends : setEngine .idle (finishJob j w (freeItemBanks item s)) = posted := by
    rw [finishJob_eq, stored, limits, freeItemBanks_results, freeItemBanks_notices, freeItemBanks_jobs]
    cases named : j.limit with
    | none =>
      rw [limitsWithout_of_unnamed s named]
      simp only [posted, named]
      rfl
    | some index =>
      rw [limitsWithout_of_named s named]
      simp only [posted, named]
      rfl
  refine congrArg Host.Outcome.next (posts.trans ?_)
  rw [postItem, ends]

end Sys2Proof.Machine
end

section
/-! SUPPORT. The link interface (R170 to R184): how a frame meets the input hold, how the server checks it, what the
transmitter chooses, how the receiver takes bytes, and the break detector. -/

namespace Sys2Proof.Machine

/-! ### The input hold (R175) -/

theorem receiveFrame_of_fits {f : Frame} {s : State} (fits : f.payload.length ≤ 1024) :
    receiveFrame f s = offerFrame f (setReceiver .hunt s) :=
  if_pos (decide_eq_true fits)

theorem offerFrame_of_pending {f reply : Frame} {s : State} (pending : s.link.server = .resetPending reply) :
    offerFrame f s = s := by
  unfold offerFrame
  rw [pending]

/-- A server that awaits no reset has the frame join the hold, or be dropped (R175). -/
theorem offerFrame_of_serving {f : Frame} {s : State} (serving : ∀ reply, s.link.server ≠ .resetPending reply) :
    offerFrame f s =
      if s.link.hold.length < 4 then serverTakes (setLink { s.link with hold := s.link.hold ++ [f] } s)
      else if s.link.faults.length < 4 then
        setLink { s.link with faults := s.link.faults ++ [makeFrame 0xE0 f.tag [0x01, f.kind]] } s
      else s := by
  unfold offerFrame
  split
  · next reply pending => exact absurd pending (serving reply)
  · rfl

/-- A server that is at work, or waits for the first sample, leaves the hold alone (R176, R185). -/
theorem serverTakes_of_waiting {s : State} (waiting : s.link.server ≠ .idle ∨ s.timebase.sampleTaken = false) :
    serverTakes s = s := by
  rcases waiting with busy | unsampled
  · exact serverTakes_of_not_idle (.inl busy)
  · unfold serverTakes
    split
    · rw [unsampled]
      rfl
    · rfl

/-- A request command is the arrival of that request's frame (log 1). -/
theorem exec_of_request {c : Instr} {tag : Byte} {r : Request} (s : State) (request : requestOf c = some (tag, r)) :
    exec c s = exec (.frameReceived (requestFrame tag r)) s := by
  cases c <;> cases request <;> rfl

/-- Settles O50: by the state of the server, then by the room in the hold and the fault list. -/
theorem framesMeetTheInputHold : Obligations.FramesMeetTheInputHold := by
  unfold Obligations.FramesMeetTheInputHold
  refine ⟨fun c tag r s => exec_of_request s, fun f s fits => ?_⟩
  have meets : exec (.frameReceived f) s = .next (offerFrame f (setReceiver .hunt s)) :=
    congrArg Host.Outcome.next (receiveFrame_of_fits fits)
  refine ⟨fun reply pending => ?_, fun serving => ⟨fun room waiting => ?_, fun head rest room idle sampled hold => ?_,
    fun full room => ?_, fun full noRoom => ?_⟩⟩
  · exact meets.trans (congrArg _ (offerFrame_of_pending (s := setReceiver .hunt s) pending))
  all_goals rw [meets, offerFrame_of_serving (s := setReceiver .hunt s) serving]
  · refine congrArg _ ((if_pos room).trans ?_)
    exact serverTakes_of_waiting waiting
  · refine congrArg _ ((if_pos room).trans ?_)
    exact serverTakes_of_idle idle hold sampled
  · exact congrArg _ ((if_neg (Nat.not_lt.mpr full)).trans (if_pos room))
  · exact congrArg _ ((if_neg (Nat.not_lt.mpr full)).trans (if_neg (Nat.not_lt.mpr noRoom)))

/-! ### The link checks (R176, R177, R183) -/

theorem checkHolds_eq_false_iff (f : Frame) :
    checkHolds f = false ↔ ¬f.check = crc (coveredBytes f.kind f.tag f.payload) := by
  rw [← checkHolds_iff, Bool.not_eq_true]

theorem isRequestKind_iff (kind : Byte) : isRequestKind kind = true ↔ 1 ≤ kind.toNat ∧ kind.toNat ≤ 23 := by
  rw [isRequestKind, Bool.and_eq_true, decide_eq_true_eq, decide_eq_true_eq]

theorem isRequestKind_eq_false_iff (kind : Byte) : isRequestKind kind = false ↔ ¬(1 ≤ kind.toNat ∧ kind.toNat ≤ 23) := by
  rw [← isRequestKind_iff, Bool.not_eq_true]

/-- The server with a reply in hand. -/
def replies (server : Server) (s : State) : State :=
  { s with link := { s.link with server } }

theorem linkChecks_of_bad_check {f : Frame} (bad : checkHolds f = false) :
    linkChecks f = .error (makeFrame 0xE0 f.tag [0x02, f.kind]) := by
  unfold linkChecks
  rw [bad]
  rfl

theorem linkChecks_of_unknown {f : Frame} (passes : checkHolds f = true) (unknown : isRequestKind f.kind = false) :
    linkChecks f = .error (makeFrame 0xE0 f.tag [0x03, f.kind]) := by
  unfold linkChecks
  rw [passes, unknown]
  rfl

theorem linkChecks_of_bad_length {f : Frame} (passes : checkHolds f = true) (known : isRequestKind f.kind = true)
    (bad : readRequest f.kind f.payload = none) : linkChecks f = .error (makeFrame (f.kind + 128) f.tag [0x04]) := by
  unfold linkChecks
  rw [passes, known, bad]
  rfl

theorem linkChecks_of_request {f : Frame} {r : Request} (passes : checkHolds f = true) (known : isRequestKind f.kind = true)
    (reads : readRequest f.kind f.payload = some r) : linkChecks f = .ok r := by
  unfold linkChecks
  rw [passes, known, reads]
  rfl

theorem serveFrame_of_refused {f reply : Frame} (s : State) (refused : linkChecks f = .error reply) :
    serveFrame f s = replies (.replying reply) s := by
  unfold serveFrame
  rw [refused]
  rfl

theorem serveFrame_of_request {f : Frame} {r : Request} (s : State) (checked : linkChecks f = .ok r) :
    serveFrame f s =
      replies (serverAfter r (makeFrame (f.kind + 128) f.tag (serveRequest r s).1)) (serveRequest r s).2 := by
  unfold serveFrame
  rw [checked]
  rfl

theorem serverAfter_of_other {r : Request} (reply : Frame) (other : r ≠ .reset) : serverAfter r reply = .replying reply := by
  cases r <;> first | rfl | exact absurd rfl other

/-- A RESET frame discards the hold and leaves the server RESET_PENDING (R183). -/
theorem serveFrame_of_reset {f : Frame} (s : State) (passes : checkHolds f = true) (kind : f.kind = 23)
    (empty : f.payload = []) : serveFrame f s =
      replies (.resetPending (makeFrame 0x97 f.tag [0x00])) { s with link := { s.link with hold := [] } } := by
  have known : isRequestKind f.kind = true := by rw [kind]; rfl
  have reads : readRequest f.kind f.payload = some .reset := by rw [kind, empty]; rfl
  have code : f.kind + 128 = 0x97 := by rw [kind]; rfl
  rw [serveFrame_of_request s (linkChecks_of_request passes known reads), code]
  rfl

theorem failsLinkCheck_of_refused {f reply : Frame} (refused : linkChecks f = .error reply) : failsLinkCheck f = true := by
  unfold failsLinkCheck
  rw [refused]

theorem failsLinkCheck_of_request {f : Frame} {r : Request} (checked : linkChecks f = .ok r) : failsLinkCheck f = false := by
  unfold failsLinkCheck
  rw [checked]

theorem exec_linkCheckFault_of_refused {f reply : Frame} (s : State) (refused : linkChecks f = .error reply) :
    exec (.linkCheckFault f) s = exec (.frameReceived f) s :=
  congrArg Host.Outcome.next (if_pos (failsLinkCheck_of_refused refused))

theorem exec_linkCheckFault_of_request {f : Frame} {r : Request} (s : State) (checked : linkChecks f = .ok r) :
    exec (.linkCheckFault f) s = .next s :=
  congrArg Host.Outcome.next (if_neg (by rw [failsLinkCheck_of_request checked]; exact Bool.false_ne_true))

/-- A server that is ready answers a frame at once. -/
theorem exec_frameReceived_of_ready {f : Frame} {s : State} (ready : Ready s) (fits : f.payload.length ≤ 1024) :
    exec (.frameReceived f) s = .next (serveFrame f (setReceiver .hunt s)) :=
  congrArg Host.Outcome.next ((receiveFrame_of_fits fits).trans (offerFrame_ready (s := setReceiver .hunt s) ready))

/-- A frame that fails a check is answered at once by a server that is ready. -/
theorem exec_linkCheckFault_of_ready {f : Frame} {kind : Byte} {payload : List Byte} {s : State} (ready : Ready s)
    (fits : f.payload.length ≤ 1024) (refused : linkChecks f = .error (makeFrame kind f.tag payload)) :
    exec (.linkCheckFault f) s = .next (answered kind f.tag payload s) := by
  rw [exec_linkCheckFault_of_refused s refused, exec_frameReceived_of_ready ready fits, serveFrame_of_refused _ refused]
  rfl

/-- Settles O51: by the first link check that fails. -/
theorem serverChecksFramesInOrder : Obligations.ServerChecksFramesInOrder := by
  unfold Obligations.ServerChecksFramesInOrder
  refine ⟨fun f s => ?_, fun tag s ready => ?_⟩
  · intro passesCrc known replies
    have bad (fails : ¬passesCrc) := linkChecks_of_bad_check ((checkHolds_eq_false_iff f).mpr fails)
    have unknown (passes : passesCrc) (unknown : ¬known) :=
      linkChecks_of_unknown ((checkHolds_iff f).mpr passes) ((isRequestKind_eq_false_iff f.kind).mpr unknown)
    have short (passes : passesCrc) (isKnown : known) (none : readRequest f.kind f.payload = none) :=
      linkChecks_of_bad_length ((checkHolds_iff f).mpr passes) ((isRequestKind_iff f.kind).mpr isKnown) none
    have request (passes : passesCrc) (isKnown : known) (r : Request) (reads : readRequest f.kind f.payload = some r) :=
      linkChecks_of_request ((checkHolds_iff f).mpr passes) ((isRequestKind_iff f.kind).mpr isKnown) reads
    refine ⟨fun fails => serveFrame_of_refused s (bad fails),
      fun passes isUnknown => serveFrame_of_refused s (unknown passes isUnknown),
      fun passes isKnown none => serveFrame_of_refused s (short passes isKnown none),
      fun passes isKnown r reads other => ?_,
      fun passes kind empty => serveFrame_of_reset s ((checkHolds_iff f).mpr passes) kind empty, fun refused => ?_,
      fun passes isKnown reads => ?_, fun ready fits => ⟨fun fails => exec_linkCheckFault_of_ready ready fits (bad fails),
        fun passes isUnknown => exec_linkCheckFault_of_ready ready fits (unknown passes isUnknown),
        fun passes isKnown none => exec_linkCheckFault_of_ready ready fits (short passes isKnown none)⟩⟩
    · rw [serveFrame_of_request s (request passes isKnown r reads), serverAfter_of_other _ other]
      rfl
    · by_cases passes : passesCrc
      · by_cases isKnown : known
        · have none := (refused.resolve_left (not_not_intro passes)).resolve_left (not_not_intro isKnown)
          exact exec_linkCheckFault_of_refused s (short passes isKnown none)
        · exact exec_linkCheckFault_of_refused s (unknown passes isKnown)
      · exact exec_linkCheckFault_of_refused s (bad passes)
    · obtain ⟨r, reads⟩ := Option.isSome_iff_exists.mp reads
      exact exec_linkCheckFault_of_request s (request passes isKnown r reads)
  · have arrives : exec (.reset tag) s = exec (.frameReceived (requestFrame tag .reset)) s := rfl
    rw [arrives, exec_frameReceived_of_ready ready (Nat.zero_le _),
      serveFrame_of_reset (f := requestFrame tag .reset) _ (checkHolds_makeFrame _ _ _) rfl rfl]
    rfl

/-! ### The transmitter (R176, R179, R180) -/

theorem clearDue_of_not_due {s : State} (clear : s.notices.due = false) : clearDue s = s := by
  unfold clearDue
  rw [← clear]

theorem anyFlag_noticeFlags_iff (s : State) : anyFlag (noticeFlags s) = true ↔
    ¬∀ flag, ¬(flagOf s.notices.flags flag = true ∧ flagOf s.notices.enables flag = true) := by
  simp only [anyFlag_iff, noticeFlags, flagOf_flagsBoth, Bool.and_eq_true, not_forall, not_not]

theorem startTransmission_of_sending {s : State} {source : Source} {f : Frame}
    (sending : s.link.transmitter = .sending source f) : startTransmission s = s := by
  unfold startTransmission
  rw [sending]

theorem startTransmission_of_finishing {s : State} (finishing : s.link.transmitter = .finishingByte) :
    startTransmission s = s := by
  unfold startTransmission
  rw [finishing]

theorem startTransmission_of_fault {s : State} {f : Frame} {rest : List Frame} (free : s.link.transmitter = .betweenFrames)
    (faults : s.link.faults = f :: rest) :
    startTransmission s = send .fault f (setLink { s.link with faults := rest } s) := by
  unfold startTransmission
  rw [free, faults]

theorem startTransmission_of_no_fault {s : State} (free : s.link.transmitter = .betweenFrames) (faults : s.link.faults = []) :
    startTransmission s = chooseAfterFaults s := by
  unfold startTransmission
  rw [free, faults]

theorem chooseAfterFaults_of_notice {s : State} (due : s.notices.due = true) (carries : anyFlag (noticeFlags s) = true) :
    chooseAfterFaults s = sendNotice (noticeFlags s) (clearDue s) := by
  unfold chooseAfterFaults
  rw [if_pos due, if_pos carries]

theorem chooseAfterFaults_of_no_notice {s : State} (none : s.notices.due = false ∨ anyFlag (noticeFlags s) = false) :
    chooseAfterFaults s = sendServerReply (clearDue s) := by
  unfold chooseAfterFaults
  by_cases due : s.notices.due = true
  · have empty : anyFlag (noticeFlags s) = false := none.resolve_left (by simp [due])
    rw [if_pos due, empty, if_neg Bool.false_ne_true]
  · rw [if_neg due, clearDue_of_not_due (Bool.not_eq_true _ ▸ due)]

theorem sendServerReply_of_idle {s : State} (idle : s.link.server = .idle) : sendServerReply s = s := by
  unfold sendServerReply
  rw [idle]

theorem sendServerReply_of_reply {s : State} {reply : Frame}
    (holds : s.link.server = .replying reply ∨ s.link.server = .resetPending reply) :
    sendServerReply s = send .serverReply reply s := by
  unfold sendServerReply
  rcases holds with server | server
  · rw [server]
  · rw [server]

theorem endTransmission_of_free {s : State} (free : s.link.transmitter = .betweenFrames) : endTransmission s = s := by
  unfold endTransmission
  rw [free]

theorem endTransmission_of_finishing {s : State} (finishing : s.link.transmitter = .finishingByte) :
    endTransmission s = setLink { s.link with transmitter := .betweenFrames } s := by
  unfold endTransmission
  rw [finishing]

theorem endTransmission_of_other {s : State} {source : Source} {f : Frame}
    (sending : s.link.transmitter = .sending source f) (other : source ≠ .serverReply) :
    endTransmission s = setLink { s.link with transmitter := .betweenFrames } s := by
  unfold endTransmission
  rw [sending]
  cases source with
  | fault => rfl
  | notice => rfl
  | serverReply => exact absurd rfl other

theorem endTransmission_of_reply {s : State} {f : Frame} (sending : s.link.transmitter = .sending .serverReply f) :
    endTransmission s = endServerReply (setLink { s.link with transmitter := .betweenFrames } s) := by
  unfold endTransmission
  rw [sending]

theorem endServerReply_of_idle {s : State} (idle : s.link.server = .idle) : endServerReply s = s := by
  unfold endServerReply
  rw [idle]

theorem endServerReply_of_replying {s : State} {reply : Frame} (replying : s.link.server = .replying reply) :
    endServerReply s = serverTakes (setLink { s.link with server := .idle } s) := by
  unfold endServerReply
  rw [replying]

/-- Settles O52: by what the transmitter sends, and what waits for it. -/
theorem transmitterChoosesAndFinishesFrames : Obligations.TransmitterChoosesAndFinishesFrames := by
  unfold Obligations.TransmitterChoosesAndFinishesFrames
  intro s sends carried empty cleared ended
  refine ⟨fun source f sending => congrArg _ (startTransmission_of_sending sending),
    fun free => ⟨fun f rest faults => congrArg _ (startTransmission_of_fault free faults),
      fun faults due carries => ?_, fun faults none => ?_⟩,
    fun finishing => ⟨congrArg _ (startTransmission_of_finishing finishing),
      congrArg _ (endTransmission_of_finishing finishing)⟩,
    fun free => congrArg _ (endTransmission_of_free free), fun source f sending other => ?_,
    fun f reply sending replying => ⟨fun waiting => ?_, fun head rest hold sampled => ?_⟩⟩
  · exact congrArg _ ((startTransmission_of_no_fault free faults).trans
      (chooseAfterFaults_of_notice due ((anyFlag_noticeFlags_iff s).mpr carries)))
  · have chooses : startTransmission s = sendServerReply cleared := by
      refine (startTransmission_of_no_fault free faults).trans (chooseAfterFaults_of_no_notice (none.imp_right fun empty => ?_))
      exact Bool.eq_false_iff.mpr fun carries => (anyFlag_noticeFlags_iff s).mp carries empty
    exact ⟨fun idle => congrArg _ (chooses.trans (sendServerReply_of_idle (s := cleared) idle)),
      fun reply holds => congrArg _ (chooses.trans (sendServerReply_of_reply (s := cleared) holds))⟩
  · by_cases reply : source = .serverReply
    · subst reply
      have idle : s.link.server = .idle := other.resolve_left fun apart => apart rfl
      exact congrArg _ ((endTransmission_of_reply sending).trans (endServerReply_of_idle (s := ended s.link) idle))
    · exact congrArg _ (endTransmission_of_other sending reply)
  all_goals
    refine congrArg Host.Outcome.next
      (((endTransmission_of_reply sending).trans (endServerReply_of_replying (s := ended s.link) replying)).trans ?_)
  · rcases waiting with none | unsampled
    · exact serverTakes_of_not_idle (s := ended { s.link with server := .idle }) (.inr none)
    · exact serverTakes_of_waiting (s := ended { s.link with server := .idle }) (.inr unsampled)
  · exact serverTakes_of_idle (s := ended { s.link with server := .idle }) rfl hold sampled

end Sys2Proof.Machine
end

section
/-! SUPPORT. The receiver and the break detector (R170, R171, R173, R174, R184): how a byte is taken in each state, that the
bytes of a whole frame are its arrival, and how the receive line is sensed. -/

namespace Sys2Proof.Machine

/-! ### Bytes, one by one (R170, R173) -/

theorem toNat_word16 (b0 b1 : Byte) : (word16 b0 b1).toNat = b0.toNat + 256 * b1.toNat := by
  have low := b0.isLt
  rw [word16, BitVec.toNat_append, ← Nat.shiftLeft_add_eq_or_of_lt low, Nat.shiftLeft_eq]
  omega

theorem word16_eq (b0 b1 : Byte) : word16 b0 b1 = BitVec.ofNat 16 (b0.toNat + 256 * b1.toNat) := by
  rw [← toNat_word16, BitVec.ofNat_toNat, BitVec.setWidth_eq]

theorem lengthOf_eq (got : List Byte) : lengthOf got = (got.getD 0 0).toNat + 256 * (got.getD 1 0).toNat :=
  toNat_word16 _ _

theorem deliverByte_of_hunt {b : Byte} {s : State} (hunt : s.link.receiver = .hunt) :
    deliverByte b s = if b = 90 then setReceiver (.header []) s else s := by
  unfold deliverByte
  rw [hunt]

theorem deliverByte_of_header {b : Byte} {got : List Byte} {s : State} (header : s.link.receiver = .header got) :
    deliverByte b s = setReceiver (afterHeaderByte (got ++ [b])) s := by
  unfold deliverByte
  rw [header]

theorem deliverByte_of_body {b : Byte} {length : Nat} {got : List Byte} {s : State}
    (body : s.link.receiver = .body length got) : deliverByte b s =
      if got.length + 1 = 4 + length then setReceiver (.check length (got ++ [b])) s
      else setReceiver (.body length (got ++ [b])) s := by
  unfold deliverByte
  rw [body]
  dsimp only
  rw [List.length_append, List.length_singleton]

theorem deliverByte_of_check {b : Byte} {length : Nat} {got : List Byte} {s : State}
    (check : s.link.receiver = .check length got) : deliverByte b s =
      if (got ++ [b]).length = 6 + length then receiveFrame (frameOf length (got ++ [b])) s
      else setReceiver (.check length (got ++ [b])) s := by
  unfold deliverByte
  rw [check]

/-- The header ends with its fourth byte. -/
theorem afterHeaderByte_eq {got : List Byte} (atMost : got.length ≤ 4) : afterHeaderByte got =
    if got.length = 2 ∧ 1024 < lengthOf got then .hunt
    else if got.length < 4 then .header got
    else if lengthOf got = 0 then .check 0 got else .body (lengthOf got) got := by
  unfold afterHeaderByte
  by_cases discarded : got.length = 2 ∧ 1024 < lengthOf got
  · rw [if_pos discarded, if_pos discarded]
  · rw [if_neg discarded, if_neg discarded]
    by_cases whole : got.length = 4
    · have notFew : ¬got.length < 4 := by omega
      rw [if_pos whole, if_neg notFew]
    · rw [if_neg whole, if_pos (by omega)]

/-! ### The bytes of a whole frame (R171, R173) -/

/-- Bytes with high stop bits, one after another. -/
def deliverBytes (bytes : List Byte) (s : State) : State :=
  bytes.foldl (fun s b => deliverByte b s) s

theorem deliverBytes_append (first second : List Byte) (s : State) :
    deliverBytes (first ++ second) s = deliverBytes second (deliverBytes first s) :=
  List.foldl_append

/-- One byte taken as an outcome, after the bytes before it. -/
def takeByte (o : Host.Outcome State Fault Refusal) (b : Byte) : Host.Outcome State Fault Refusal :=
  match o with
  | .next u => exec (.byteReceived b .high) u
  | stopped => stopped

theorem foldl_takeByte (bytes : List Byte) (s : State) :
    bytes.foldl takeByte (.next s) = .next (deliverBytes bytes s) := by
  induction bytes generalizing s with
  | nil => rfl
  | cons b bytes ih => exact ih (deliverByte b s)

@[simp] theorem setReceiver_setReceiver (q r : Receiver) (s : State) : setReceiver q (setReceiver r s) = setReceiver q s :=
  rfl

/-- A header byte before the last, of a header whose length is not discarded, is kept. -/
theorem deliverByte_header {got : List Byte} {b : Byte} {r : Receiver} (s : State) (after : afterHeaderByte (got ++ [b]) = r) :
    deliverByte b (setReceiver (.header got) s) = setReceiver r s := by
  rw [deliverByte_of_header (s := setReceiver (.header got) s) rfl, after, setReceiver_setReceiver]

/-- Where the receiver goes with the whole header in. -/
def afterHeader (length : Nat) (header : List Byte) : Receiver :=
  if length = 0 then .check 0 header else .body length header

/-- The start byte and the header of a frame that fits. -/
theorem deliverBytes_header {l0 l1 kind tag : Byte} {s : State} (hunt : s.link.receiver = .hunt)
    (fits : l0.toNat + 256 * l1.toNat ≤ 1024) : deliverBytes [0x5A, l0, l1, kind, tag] s =
      setReceiver (afterHeader (l0.toNat + 256 * l1.toNat) [l0, l1, kind, tag]) s := by
  have length (rest : List Byte) : lengthOf (l0 :: l1 :: rest) = l0.toNat + 256 * l1.toNat := lengthOf_eq _
  have start : deliverByte 0x5A s = setReceiver (.header []) s := (deliverByte_of_hunt hunt).trans (if_pos rfl)
  have first : afterHeaderByte [l0] = .header [l0] := rfl
  have second : afterHeaderByte [l0, l1] = .header [l0, l1] :=
    (if_neg fun discarded => absurd discarded.2 (by rw [length]; omega)).trans (if_neg (by simp))
  have third : afterHeaderByte [l0, l1, kind] = .header [l0, l1, kind] := rfl
  have fourth : afterHeaderByte [l0, l1, kind, tag] =
      afterHeader (l0.toNat + 256 * l1.toNat) [l0, l1, kind, tag] := by
    rw [afterHeader, ← length [kind, tag]]
    rfl
  calc deliverBytes [0x5A, l0, l1, kind, tag] s
      = deliverByte tag (deliverByte kind (deliverByte l1 (deliverByte l0 (deliverByte 0x5A s)))) := rfl
    _ = setReceiver (afterHeader (l0.toNat + 256 * l1.toNat) [l0, l1, kind, tag]) s := by
      rw [start, deliverByte_header s first, deliverByte_header s second, deliverByte_header s third,
        deliverByte_header s fourth]

/-- The payload bytes bring the receiver from the header to the check field. -/
theorem deliverBytes_payload {payload got : List Byte} {length : Nat} (s : State) (some : payload ≠ [])
    (whole : got.length + payload.length = 4 + length) :
    deliverBytes payload (setReceiver (.body length got) s) = setReceiver (.check length (got ++ payload)) s := by
  induction payload generalizing got with
  | nil => exact absurd rfl some
  | cons b payload ih =>
    have step : deliverBytes (b :: payload) (setReceiver (.body length got) s) =
        deliverBytes payload (deliverByte b (setReceiver (.body length got) s)) := rfl
    rw [step, deliverByte_of_body (s := setReceiver (.body length got) s) rfl]
    simp only [List.length_cons] at whole
    by_cases last : payload = []
    · subst last
      exact if_pos (by simpa using whole)
    · have more : 0 < payload.length := List.length_pos_iff.mpr last
      rw [if_neg (by omega), setReceiver_setReceiver, ih last (by simp; omega), List.append_assoc]
      rfl

/-- The two check bytes complete the frame. -/
theorem deliverBytes_check {got : List Byte} {length : Nat} {c0 c1 : Byte} (s : State) (whole : got.length = 4 + length) :
    deliverBytes [c0, c1] (setReceiver (.check length got) s) =
      receiveFrame (frameOf length (got ++ [c0, c1])) (setReceiver (.check length (got ++ [c0])) s) := by
  have step : deliverBytes [c0, c1] (setReceiver (.check length got) s) =
      deliverByte c1 (deliverByte c0 (setReceiver (.check length got) s)) := rfl
  rw [step, deliverByte_of_check (s := setReceiver (.check length got) s) rfl, if_neg (by simp; omega),
    setReceiver_setReceiver, deliverByte_of_check (s := setReceiver (.check length (got ++ [c0])) s) rfl,
    if_pos (by simp; omega), List.append_assoc]
  rfl

/-- A frame that arrives finds the receiver of no concern. -/
theorem receiveFrame_setReceiver (f : Frame) (r : Receiver) (s : State) :
    receiveFrame f (setReceiver r s) = receiveFrame f s :=
  rfl

/-- The bytes kept of a frame are the frame. -/
theorem frameOf_bytes (f : Frame) (l0 l1 : Byte) : frameOf f.payload.length
    ([l0, l1, f.kind, f.tag] ++ f.payload ++ [f.check.extractLsb' 0 8, f.check.extractLsb' 8 8]) = f := by
  have c0 : ([l0, l1, f.kind, f.tag] ++ f.payload ++ [f.check.extractLsb' 0 8, f.check.extractLsb' 8 8]).getD
      (4 + f.payload.length) 0 = f.check.extractLsb' 0 8 := by
    have first : 4 + f.payload.length - ([l0, l1, f.kind, f.tag] ++ f.payload).length = 0 := by simp; omega
    rw [List.getD_append_right _ _ _ _ (by simp; omega), first]
    rfl
  have c1 : ([l0, l1, f.kind, f.tag] ++ f.payload ++ [f.check.extractLsb' 0 8, f.check.extractLsb' 8 8]).getD
      (5 + f.payload.length) 0 = f.check.extractLsb' 8 8 := by
    have beyond : 5 + f.payload.length - ([l0, l1, f.kind, f.tag] ++ f.payload).length = 1 := by simp; omega
    rw [List.getD_append_right _ _ _ _ (by simp; omega), beyond]
    rfl
  unfold frameOf
  rw [c0, c1, word16_bytes]
  simp

/-- The bytes of a frame that fits, taken one by one from HUNT, are its arrival (R171, R173). -/
theorem deliverBytes_frameBytes {f : Frame} {s : State} (fits : f.payload.length ≤ 1024) (hunt : s.link.receiver = .hunt) :
    deliverBytes (frameBytes f) s = receiveFrame f s := by
  let l0 : Byte := (BitVec.ofNat 16 f.payload.length).extractLsb' 0 8
  let l1 : Byte := (BitVec.ofNat 16 f.payload.length).extractLsb' 8 8
  have length : l0.toNat + 256 * l1.toNat = f.payload.length := by
    rw [← toNat_word16, word16_bytes, BitVec.toNat_ofNat]
    exact Nat.mod_eq_of_lt (by omega)
  have bytes : frameBytes f = [0x5A, l0, l1, f.kind, f.tag] ++
      (f.payload ++ [f.check.extractLsb' 0 8, f.check.extractLsb' 8 8]) := by
    simp [frameBytes, bytes16OfNat, bytes16, l0, l1]
  have body : deliverBytes f.payload (setReceiver (afterHeader f.payload.length [l0, l1, f.kind, f.tag]) s) =
      setReceiver (.check f.payload.length ([l0, l1, f.kind, f.tag] ++ f.payload)) s := by
    by_cases empty : f.payload = []
    · rw [empty]
      rfl
    · rw [afterHeader, if_neg (mt List.length_eq_zero_iff.mp empty)]
      exact deliverBytes_payload s empty (by simp)
  rw [bytes, deliverBytes_append, deliverBytes_header hunt (by omega), length, deliverBytes_append, body,
    deliverBytes_check s (by simp; omega), frameOf_bytes, receiveFrame_setReceiver]

/-! ### The break detector (R184) -/

theorem countLowPeriod_of_few {s : State} (few : s.link.lowPeriods + 1 < 250000 ∨ s.link.detector = .spent) :
    countLowPeriod s = setLink { s.link with lowPeriods := s.link.lowPeriods + 1 } s := by
  unfold countLowPeriod
  dsimp only
  split
  · next long =>
    have spent : s.link.detector = .spent := few.resolve_left (Nat.not_lt.mpr long)
    unfold detectBreak
    rw [setLink_link, spent]
  · rfl

theorem detectBreak_of_spent {s : State} (spent : s.link.detector = .spent) : detectBreak s = s := by
  unfold detectBreak
  rw [spent]

theorem detectBreak_of_armed {s : State} (armed : s.link.detector = .armed) : detectBreak s =
    resetBlocks (Link.afterReset (cutOff s.link.transmitter) .spent (max s.link.lowPeriods 250000) .linkBreak) s := by
  unfold detectBreak
  rw [armed]
  rfl

/-- The 250,000th low period is a break. -/
theorem countLowPeriod_of_break {s : State} (long : s.link.lowPeriods + 1 = 250000) (armed : s.link.detector = .armed) :
    countLowPeriod s = detectBreak s := by
  have counted : detectBreak (setLink { s.link with lowPeriods := s.link.lowPeriods + 1 } s) = detectBreak s := by
    have greatest : max (s.link.lowPeriods + 1) 250000 = max s.link.lowPeriods 250000 := by omega
    rw [detectBreak_of_armed (s := setLink { s.link with lowPeriods := s.link.lowPeriods + 1 } s) armed, detectBreak_of_armed armed, setLink_link, greatest]
    rfl
  exact (if_pos long.ge).trans counted

/-- Settles O53: byte by byte, then over the bytes of a frame, then the line. -/
theorem receiverTakesBytesAndTheDetectorItsLine : Obligations.ReceiverTakesBytesAndTheDetectorItsLine := by
  unfold Obligations.ReceiverTakesBytesAndTheDetectorItsLine
  refine ⟨fun b s => ⟨rfl, rfl, fun hunt => ?_, fun got header few => ?_, fun length got body => ?_,
    fun length got check => ?_⟩, fun f s fits hunt => ?_,
    fun s => ⟨rfl, rfl, fun spent => congrArg _ (detectBreak_of_spent spent), fun few => countLowPeriod_of_few few,
      fun long armed => congrArg _ (countLowPeriod_of_break long armed).symm⟩⟩
  · refine (congrArg Host.Outcome.next (deliverByte_of_hunt hunt)).trans ?_
    exact apply_ite Host.Outcome.next _ _ _
  · refine (congrArg Host.Outcome.next (deliverByte_of_header header)).trans ?_
    rw [afterHeaderByte_eq (by simp; omega), lengthOf_eq]
    simp only [apply_ite Host.Outcome.next, apply_ite (setReceiver · s)]
    rfl
  · refine (congrArg Host.Outcome.next (deliverByte_of_body body)).trans ?_
    exact apply_ite Host.Outcome.next _ _ _
  · refine (congrArg Host.Outcome.next (deliverByte_of_check check)).trans ?_
    rw [frameOf, word16_eq]
    exact apply_ite Host.Outcome.next _ _ _
  · refine Eq.trans ?_ (congrArg Host.Outcome.next (deliverBytes_frameBytes fits hunt))
    exact foldl_takeByte (frameBytes f) s

end Sys2Proof.Machine
end

section
/-! SUPPORT. The time figures (R102 to R109): that a figure is the exact value in femtoseconds to the nearest integer, and that
the squares and ranges it is formed from are the formulas' own. -/

namespace Sys2Proof.Machine

/-! ### Femtoseconds (R102, R109) -/

/-- A figure of so many femtoseconds, saturated at 4,294,967,295 (R109). -/
theorem saturated_eq (fs : Nat) : saturated fs =
    if fs ≤ 4294967295 then { value := some (fs : Int) } else { value := some 4294967295, flags := { saturated := true } } := by
  rcases Nat.lt_or_ge 4294967295 fs with beyond | within
  · exact (if_pos beyond).trans (if_neg (Nat.not_le.mpr beyond)).symm
  · exact (if_neg (Nat.not_lt.mpr within)).trans (if_pos within).symm

theorem rootFigure_of_nonpos {num : Int} (den : Nat) (nonpos : num ≤ 0) :
    rootFigure num den = { value := some 0, flags := { atFloor := true } } :=
  if_pos nonpos

theorem rootFigure_of_pos {num : Int} (den : Nat) (pos : 0 < num) :
    rootFigure num den = saturated (rootRounded (num.toNat * 78125 ^ 2) (den * 32768 ^ 2)) :=
  if_neg (not_le.mpr pos)

/-- The root in su, converted, is the root of the converted square. -/
theorem sqrt_in_femtoseconds {num : Int} (den : Nat) (pos : 0 < num) :
    Real.sqrt (((num.toNat * 78125 ^ 2 : Nat) : ℝ) / ((den * 32768 ^ 2 : Nat) : ℝ)) =
      Real.sqrt (num / den) * 78125 / 32768 := by
  have whole : ((num.toNat : Nat) : ℝ) = num := by exact_mod_cast Int.toNat_of_nonneg pos.le
  have square : (((num.toNat * 78125 ^ 2 : Nat) : ℝ) / ((den * 32768 ^ 2 : Nat) : ℝ)) = num / den * (78125 / 32768) ^ 2 := by
    push_cast
    rw [whole]
    ring
  have factor_nonneg : (0 : ℝ) ≤ 78125 / 32768 := by norm_num
  rw [square, Real.sqrt_mul' _ (sq_nonneg _), Real.sqrt_sq factor_nonneg, mul_div_assoc]

theorem roundTiesUp_nonneg {num : Int} {den : Nat} (pos : 0 < den) (nonneg : 0 ≤ num) : 0 ≤ roundTiesUp num den :=
  Int.ediv_nonneg (by omega) (by omega)

/-- The nearest integer of a quotient that is not negative, ties up. -/
theorem roundTiesUp_nearest {num : Int} {den : Nat} (pos : 0 < den) (nonneg : 0 ≤ num) :
    ((roundTiesUp num den).toNat : ℝ) - 1 / 2 ≤ num / den ∧ (num / den : ℝ) < (roundTiesUp num den).toNat + 1 / 2 := by
  obtain ⟨low, high⟩ := roundTiesUp_bounds num pos
  have posReal : (0 : ℝ) < den := by exact_mod_cast pos
  have whole : (((roundTiesUp num den).toNat : Nat) : ℝ) = roundTiesUp num den := by
    exact_mod_cast Int.toNat_of_nonneg (roundTiesUp_nonneg pos nonneg)
  have lowReal : (2 * (roundTiesUp num den : ℝ) - 1) * den ≤ 2 * num := by exact_mod_cast low
  have highReal : 2 * (num : ℝ) < (2 * (roundTiesUp num den : ℝ) + 1) * den := by exact_mod_cast high
  rw [whole, le_div_iff₀ posReal, div_lt_iff₀ posReal]
  constructor <;> linarith

/-- Settles O47: the two conversions are one rounding each. -/
theorem femtosecondFiguresAreNearest : Obligations.FemtosecondFiguresAreNearest := by
  unfold Obligations.FemtosecondFiguresAreNearest
  refine ⟨fun num den pos => ⟨rootFigure_of_nonpos den, fun numPos => ?_⟩, fun su => ?_⟩
  · have nearest := rootRounded_nearest (num.toNat * 78125 ^ 2) (den := den * 32768 ^ 2) (by positivity)
    rw [sqrt_in_femtoseconds den numPos] at nearest
    exact ⟨_, (rootFigure_of_pos den numPos).trans (saturated_eq _), nearest⟩
  · have nearest := roundTiesUp_nearest (num := su * 78125) (den := 32768) (by decide) (by positivity)
    push_cast at nearest
    exact ⟨_, saturated_eq _, nearest⟩

/-! ### Sequences (R104 to R107) -/

theorem periods_length (t : List Timestamp) : (periods t).length = t.length - 1 := by
  induction t with
  | nil => rfl
  | cons t0 rest ih =>
    cases rest with
    | nil => rfl
    | cons t1 rest =>
      rw [periods, List.length_cons, ih]
      rfl

/-- A period is the forward difference of two timestamps in turn, in su (R105). -/
theorem periods_getD {t : List Timestamp} {k : Nat} (lt : k < t.length - 1) :
    (periods t).getD k 0 = (t.getD (k + 1) 0 - t.getD k 0).toNat * 256 := by
  induction t generalizing k with
  | nil => exact absurd lt (Nat.not_lt_zero k)
  | cons t0 rest ih =>
    cases rest with
    | nil => exact absurd lt (Nat.not_lt_zero k)
    | cons t1 rest =>
      cases k with
      | zero =>
        simp only [periods, forwardDifference, List.getD_cons_zero, List.getD_cons_succ]
        push_cast
        rfl
      | succ k =>
        rw [periods, List.getD_cons_succ, ih (by simp only [List.length_cons] at *; omega)]
        rfl

theorem steps_length (l : List Int) : (steps l).length = l.length - 1 := by
  induction l with
  | nil => rfl
  | cons x rest ih =>
    cases rest with
    | nil => rfl
    | cons y rest =>
      rw [steps, List.length_cons, ih]
      rfl

theorem steps_getD {l : List Int} {k : Nat} (lt : k < l.length - 1) :
    (steps l).getD k 0 = l.getD (k + 1) 0 - l.getD k 0 := by
  induction l generalizing k with
  | nil => exact absurd lt (Nat.not_lt_zero k)
  | cons x rest ih =>
    cases rest with
    | nil => exact absurd lt (Nat.not_lt_zero k)
    | cons y rest =>
      cases k with
      | zero => rfl
      | succ k =>
        rw [steps, List.getD_cons_succ, ih (by simp only [List.length_cons] at *; omega)]
        rfl

theorem cycleDifferences_length (t : List Timestamp) : (cycleDifferences t).length = t.length - 2 := by
  rw [cycleDifferences, steps_length, periods_length, Nat.sub_sub]

/-- The greatest of a list is one of its members, and no member is above it. -/
theorem foldl_max_spec {α : Type} [LinearOrder α] (x : α) (rest : List α) :
    rest.foldl max x ∈ x :: rest ∧ ∀ y ∈ x :: rest, y ≤ rest.foldl max x := by
  induction rest generalizing x with
  | nil => simp
  | cons z rest ih =>
    obtain ⟨member, greatest⟩ := ih (max x z)
    have start : max x z ≤ rest.foldl max (max x z) := greatest _ List.mem_cons_self
    rw [List.foldl_cons]
    refine ⟨?_, fun y mem => ?_⟩
    · rcases List.mem_cons.mp member with same | later
      · rw [same]
        rcases max_choice x z with first | second
        · rw [first]; exact List.mem_cons_self
        · rw [second]; exact List.mem_cons_of_mem _ List.mem_cons_self
      · exact List.mem_cons_of_mem _ (List.mem_cons_of_mem _ later)
    · rcases List.mem_cons.mp mem with rfl | mem
      · exact (le_max_left _ _).trans start
      · rcases List.mem_cons.mp mem with rfl | mem
        · exact (le_max_right _ _).trans start
        · exact greatest y (List.mem_cons_of_mem _ mem)

/-- The same of the least, in the order turned round. -/
theorem foldl_min_spec {α : Type} [LinearOrder α] (x : α) (rest : List α) :
    rest.foldl min x ∈ x :: rest ∧ ∀ y ∈ x :: rest, rest.foldl min x ≤ y :=
  foldl_max_spec (α := αᵒᵈ) x rest

/-- The range of a sequence (R104). -/
theorem peakToPeak_spec {l : List Int} (some : l ≠ []) :
    ∃ high ∈ l, ∃ low ∈ l, (∀ x ∈ l, low ≤ x ∧ x ≤ high) ∧ peakToPeak l = (high - low).toNat := by
  cases l with
  | nil => exact absurd rfl some
  | cons x rest =>
    obtain ⟨high, above⟩ := foldl_max_spec x rest
    obtain ⟨low, below⟩ := foldl_min_spec x rest
    exact ⟨_, high, _, low, fun y mem => ⟨below y mem, above y mem⟩, rfl⟩

/-- The greatest magnitude of a sequence (R107). -/
theorem greatestMagnitude_spec {l : List Int} (some : l ≠ []) :
    (∃ x ∈ l, x.natAbs = greatestMagnitude l) ∧ ∀ x ∈ l, x.natAbs ≤ greatestMagnitude l := by
  have folded : greatestMagnitude l = (l.map Int.natAbs).foldl max 0 := List.foldl_map.symm
  obtain ⟨member, greatest⟩ := foldl_max_spec 0 (l.map Int.natAbs)
  rw [← folded] at member greatest
  have above : ∀ x ∈ l, x.natAbs ≤ greatestMagnitude l := fun x mem =>
    greatest _ (List.mem_cons_of_mem _ (List.mem_map_of_mem mem))
  refine ⟨?_, above⟩
  rcases List.mem_cons.mp member with zero | mapped
  · obtain ⟨x, mem⟩ := List.exists_mem_of_ne_nil l some
    exact ⟨x, mem, le_antisymm (above x mem) (zero ▸ Nat.zero_le _)⟩
  · exact List.mem_map.mp mapped

/-! ### The squares of the time figures (R102, R103, R105, R106, R108) -/

/-- The sum of squares as a rational number. -/
theorem sumSquares_cast (l : List Int) : (sumSquares l : ℚ) = ∑ k ∈ Finset.range l.length, (l.getD k 0 : ℚ) ^ 2 := by
  rw [sumSquares_eq]
  push_cast
  rfl

/-- A figure is the root of the square given, as `rootFigure` forms it. -/
def Rooted (square : ℚ) (figure : Figure) : Prop :=
  ∃ (num : Int) (den : Nat), 0 < den ∧ (num : ℚ) / den = square ∧ figure = rootFigure num den

/-- The mean of squares less a correction. -/
theorem rooted_mean {l : List Int} (correction : Nat) (some : 0 < l.length) :
    Rooted ((∑ k ∈ Finset.range l.length, (l.getD k 0 : ℚ) ^ 2) / l.length - correction)
      (rootFigure (sumSquares l - l.length * correction) l.length) := by
  have length_ne : (l.length : ℚ) ≠ 0 := by exact_mod_cast some.ne'
  refine ⟨_, _, some, ?_, rfl⟩
  push_cast
  rw [sumSquares_cast, sub_div, mul_div_cancel_left₀ _ length_ne]

theorem crossProducts_sum {x y : List Int} (same : y.length = x.length) :
    sumInt (crossProducts x y) = ∑ k ∈ Finset.range x.length, x.getD k 0 * y.getD k 0 := by
  have length : (crossProducts x y).length = x.length := by simp [crossProducts, same]
  rw [sumInt_eq_sum, sum_eq_sum_range_getD, length]
  refine Finset.sum_congr rfl fun k mem => ?_
  have inside : k < x.length := Finset.mem_range.mp mem
  simp [crossProducts, inside, same]

/-- The variance of a sequence, without a quotient before the last. -/
theorem variance_eq {l : List Int} (some : 0 < l.length) :
    ((sumSquares (l.map fun x => l.length * x - sumInt l) : Int) : ℚ) / (l.length : ℚ) ^ 3 =
      (∑ k ∈ Finset.range l.length,
        ((l.getD k 0 : ℚ) - (∑ i ∈ Finset.range l.length, (l.getD i 0 : ℚ)) / l.length) ^ 2) / l.length := by
  have length_ne : (l.length : ℚ) ≠ 0 := by exact_mod_cast some.ne'
  have total : (sumInt l : ℚ) = ∑ i ∈ Finset.range l.length, (l.getD i 0 : ℚ) := by
    rw [sumInt_eq_sum, sum_eq_sum_range_getD]
    push_cast
    rfl
  rw [sumSquares_cast, List.length_map, ← total, div_eq_div_iff (pow_ne_zero 3 length_ne) length_ne, Finset.sum_mul,
    Finset.sum_mul]
  refine Finset.sum_congr rfl fun k mem => ?_
  have inside : k < l.length := Finset.mem_range.mp mem
  have member : (l.map fun x => l.length * x - sumInt l).getD k 0 = l.length * l.getD k 0 - sumInt l := by
    simp [inside]
  rw [member]
  push_cast
  field_simp

/-- Settles O46: each figure's square is the formula's, its sequence being the model's list read by index. -/
theorem timeFiguresFollowTheirFormulas : Obligations.TimeFiguresFollowTheirFormulas := by
  unfold Obligations.TimeFiguresFollowTheirFormulas
  intro t t2 correction three same n tie tie2 period cycle mean rooted
  have periodAt (k : Nat) (lt : k < t.length - 1) : ((periods t).getD k 0 : ℚ) = period k := by
    rw [periods_getD lt]
    push_cast
    rfl
  have cycleAt (k : Nat) (lt : k < t.length - 2) : ((cycleDifferences t).getD k 0 : ℚ) = cycle k := by
    rw [cycleDifferences, steps_getD (by rw [periods_length]; omega)]
    push_cast
    rw [periodAt (k + 1) (by omega), periodAt k (by omega)]
  have lessOne : ((t.length - 1 : Nat) : ℚ) = n - 1 := by
    rw [Nat.cast_sub (by omega)]
    rfl
  have lessTwo : ((t.length - 2 : Nat) : ℚ) = n - 2 := by
    rw [Nat.cast_sub (by omega)]
    rfl
  refine ⟨?_, ?_, ?_, ?_, ?_, ?_⟩
  · have formed := rooted_mean (l := tieOf t) correction (by rw [tieOf_length]; omega)
    rw [tieOf_length] at formed
    exact formed
  · refine ⟨_, t.length, by omega, ?_, rfl⟩
    rw [crossProducts_sum (by rw [tieOf_length, tieOf_length, same]), tieOf_length]
    push_cast
    rfl
  · obtain ⟨high, isHigh, low, isLow, between, range⟩ := peakToPeak_spec (l := tieOf t)
      (List.ne_nil_of_length_pos (by rw [tieOf_length]; omega))
    exact ⟨high, isHigh, low, isLow, between, by rw [tiePp, range]⟩
  · have some : 0 < (periods t).length := by rw [periods_length]; omega
    have cube_ne : ((periods t).length : ℚ) ^ 3 ≠ 0 := by positivity
    refine ⟨_, (periods t).length ^ 3, by positivity, ?_, rfl⟩
    push_cast
    rw [sub_div, mul_div_cancel_left₀ _ cube_ne, variance_eq some, periods_length, lessOne]
    have total : ∑ k ∈ Finset.range (t.length - 1), ((periods t).getD k 0 : ℚ) =
        ∑ k ∈ Finset.range (t.length - 1), period k :=
      Finset.sum_congr rfl fun k mem => periodAt k (Finset.mem_range.mp mem)
    have squares : ∑ k ∈ Finset.range (t.length - 1), (((periods t).getD k 0 : ℚ) - mean) ^ 2 =
        ∑ k ∈ Finset.range (t.length - 1), (period k - mean) ^ 2 :=
      Finset.sum_congr rfl fun k mem => by rw [periodAt k (Finset.mem_range.mp mem)]
    rw [total, ← squares]
  · have formed := rooted_mean (l := cycleDifferences t) (6 * correction) (by rw [cycleDifferences_length]; omega)
    have squares : ∑ k ∈ Finset.range (t.length - 2), ((cycleDifferences t).getD k 0 : ℚ) ^ 2 =
        ∑ k ∈ Finset.range (t.length - 2), cycle k ^ 2 :=
      Finset.sum_congr rfl fun k mem => by rw [cycleAt k (Finset.mem_range.mp mem)]
    rw [cycleDifferences_length, squares, lessTwo] at formed
    push_cast at formed
    rw [c2cRms, cycleDifferences_length]
    exact formed
  · obtain ⟨⟨x, mem, peak⟩, above⟩ := greatestMagnitude_spec (l := cycleDifferences t)
      (List.ne_nil_of_length_pos (by rw [cycleDifferences_length]; omega))
    have magnitude (z : Int) : |(z : ℚ)| = (z.natAbs : ℚ) := by rw [← Int.cast_abs, Int.abs_eq_natAbs, Int.cast_natCast]
    have inside (k : Nat) (lt : k < t.length - 2) : (cycleDifferences t).getD k 0 ∈ cycleDifferences t := by
      rw [List.getD_eq_getElem _ _ (by rw [cycleDifferences_length]; exact lt)]
      exact List.getElem_mem _
    refine ⟨greatestMagnitude (cycleDifferences t), ?_, fun k lt => ?_, rfl⟩
    · obtain ⟨k, lt, rfl⟩ := List.mem_iff_getElem.mp mem
      have lt' : k < t.length - 2 := by rwa [cycleDifferences_length] at lt
      refine ⟨k, lt', ?_⟩
      rw [← cycleAt k lt', List.getD_eq_getElem _ _ lt, magnitude, peak]
    · rw [← cycleAt k lt, magnitude]
      exact_mod_cast above _ (inside k lt)

end Sys2Proof.Machine
end

section
/-! SUPPORT. Sums of powers of ζ as numbers (R119 to R122, log 16): a list of integers is weighed by a number for each place.
With the powers of ζ as weights it is the sum it stands for, and with halved cosines it is the value of its surd; each
operation of the spectral pass adds to a weight what it says it adds. -/

namespace Sys2Proof.Machine

/-! ### Weights of lists -/

/-- The members of a list, each times the weight of its place. -/
noncomputable def weigh {R : Type} [CommRing R] (weight : Nat → R) (l : List Int) : R :=
  ∑ i ∈ Finset.range l.length, (l.getD i 0 : R) * weight i

section
variable {R : Type} [CommRing R] (weight : Nat → R)

theorem weigh_replicate_zero (n : Nat) : weigh weight (List.replicate n 0) = 0 := by
  refine Finset.sum_eq_zero fun i mem => ?_
  have inside : i < n := by simpa using mem
  simp [inside]

theorem getD_modify {l : List Int} {i k : Nat} (inside : k < l.length) (change : Int → Int) :
    (l.modify i change).getD k 0 = if i = k then change (l.getD k 0) else l.getD k 0 := by
  simp [List.getElem_modify, inside]

/-- A change at one place. -/
theorem weigh_modify {l : List Int} {i : Nat} (inside : i < l.length) (change : Int → Int) :
    weigh weight (l.modify i change) = weigh weight l + (change (l.getD i 0) - l.getD i 0 : Int) * weight i := by
  have single : ∑ k ∈ Finset.range l.length,
      (((l.modify i change).getD k 0 : R) * weight k - (l.getD k 0 : R) * weight k) =
        (change (l.getD i 0) - l.getD i 0 : Int) * weight i := by
    refine (Finset.sum_eq_single i (fun k mem other => ?_) fun outside => ?_).trans ?_
    · rw [getD_modify (Finset.mem_range.mp mem), if_neg (Ne.symm other), sub_self]
    · exact absurd (Finset.mem_range.mpr inside) outside
    · rw [getD_modify inside, if_pos rfl, Int.cast_sub, sub_mul]
  rw [← single, Finset.sum_sub_distrib, weigh, weigh, List.length_modify]
  exact (add_sub_cancel _ _).symm

theorem weigh_addSums {x y : List Int} (same : y.length = x.length) :
    weigh weight (addSums x y) = weigh weight x + weigh weight y := by
  have length : (addSums x y).length = x.length := by simp [addSums, same]
  rw [weigh, weigh, weigh, length, same, ← Finset.sum_add_distrib]
  refine Finset.sum_congr rfl fun k mem => ?_
  have inside : k < x.length := Finset.mem_range.mp mem
  have member : (addSums x y).getD k 0 = x.getD k 0 + y.getD k 0 := by simp [addSums, inside, same]
  rw [member, Int.cast_add, add_mul]

/-- The weight of ζ^p, the weights of the places being given: ζ^(2h) is 1, and ζ^h is −1. -/
noncomputable def rootWeight (h p : Nat) : R :=
  if p % (2 * h) < h then weight (p % (2 * h)) else -weight (p % (2 * h) - h)

theorem addRoot_length (h p : Nat) (z : Int) (sum : List Int) : (addRoot h p z sum).length = sum.length := by
  unfold addRoot
  split
  · exact List.length_modify ..
  · exact List.length_modify ..

theorem weigh_addRoot {h : Nat} (p : Nat) (z : Int) {sum : List Int} (length : sum.length = h) (pos : 0 < h) :
    weigh weight (addRoot h p z sum) = weigh weight sum + z * rootWeight weight h p := by
  have turn : p % (2 * h) < 2 * h := Nat.mod_lt _ (by omega)
  unfold addRoot rootWeight
  split
  · rw [weigh_modify weight (by omega), add_sub_cancel_left]
  · rw [weigh_modify weight (by omega), sub_sub_cancel_left, Int.cast_neg, mul_neg, neg_mul]

end

/-- A measure that each member of a list adds to, while something else is kept, adds up. -/
theorem foldl_zipIdx_measure {σ R : Type} [CommRing R] {measure : σ → R} {keeps : σ → Prop} {f : σ → Int × Nat → σ}
    {gain : Int → Nat → R} (each : ∀ s x k, keeps s → keeps (f s (x, k)) ∧ measure (f s (x, k)) = measure s + gain x k)
    (l : List Int) (start : Nat) {s : σ} (kept : keeps s) : keeps ((l.zipIdx start).foldl f s) ∧
      measure ((l.zipIdx start).foldl f s) = measure s + ∑ k ∈ Finset.range l.length, gain (l.getD k 0) (start + k) := by
  induction l generalizing start s with
  | nil => simp [kept]
  | cons x l ih =>
    obtain ⟨kept', gained⟩ := each s x start kept
    obtain ⟨later, total⟩ := ih (start + 1) kept'
    rw [List.zipIdx_cons, List.foldl_cons, List.length_cons, Finset.sum_range_succ']
    refine ⟨later, ?_⟩
    rw [total, gained, add_assoc, add_comm (gain x start)]
    simp only [List.getD_cons_succ, List.getD_cons_zero, Nat.add_zero, Nat.add_right_comm, Nat.add_assoc]

/-! ### The transforms and their products (R119 to R122) -/

section
variable {R : Type} [CommRing R] (weight : Nat → R)

/-- A transform adds the taper's three powers for each member. -/
theorem weigh_transform {h : Nat} (k : Nat) (segment : List Int) (pos : 0 < h) :
    (transform h k segment).length = h ∧ weigh weight (transform h k segment) =
      ∑ n ∈ Finset.range segment.length, (segment.getD n 0 : R) *
        (2 * rootWeight weight h ((2 * h - k % (2 * h)) * n) - rootWeight weight h ((2 * h - k % (2 * h)) * n + n) -
          rootWeight weight h ((2 * h - k % (2 * h)) * n + (2 * h - 1) * n)) := by
  unfold transform
  have total := foldl_zipIdx_measure (measure := weigh weight) (keeps := fun sum => sum.length = h)
    (f := fun sum p => addRoot h ((2 * h - k % (2 * h)) * p.2 + (2 * h - 1) * p.2) (-p.1)
      (addRoot h ((2 * h - k % (2 * h)) * p.2 + p.2) (-p.1) (addRoot h ((2 * h - k % (2 * h)) * p.2) (2 * p.1) sum)))
    (gain := fun x n => (x : R) * (2 * rootWeight weight h ((2 * h - k % (2 * h)) * n) -
      rootWeight weight h ((2 * h - k % (2 * h)) * n + n) -
      rootWeight weight h ((2 * h - k % (2 * h)) * n + (2 * h - 1) * n)))
    (fun sum x n length => by
      refine ⟨by simp only [addRoot_length, length], ?_⟩
      rw [weigh_addRoot weight _ _ (by simp only [addRoot_length, length]) pos,
        weigh_addRoot weight _ _ (by simp only [addRoot_length, length]) pos, weigh_addRoot weight _ _ length pos]
      push_cast
      ring)
    segment 0 (s := List.replicate h 0) (List.length_replicate ..)
  simpa only [weigh_replicate_zero, zero_add] using total

/-- A product adds, for each two members, the power of their distance and its inverse. -/
theorem weigh_twiceRealProduct {h : Nat} (x y : List Int) (pos : 0 < h) :
    (twiceRealProduct h x y).length = h ∧ weigh weight (twiceRealProduct h x y) =
      ∑ p ∈ Finset.range x.length, ∑ q ∈ Finset.range y.length, (x.getD p 0 : R) * y.getD q 0 *
        (rootWeight weight h (q + 2 * h - p) + rootWeight weight h (p + 2 * h - q)) := by
  unfold twiceRealProduct
  have inner (a : Int) (p : Nat) {sum : List Int} (length : sum.length = h) := foldl_zipIdx_measure
    (measure := weigh weight) (keeps := fun sum => sum.length = h)
    (f := fun sum q => addRoot h (q.2 + 2 * h - p) (a * q.1) (addRoot h (p + 2 * h - q.2) (a * q.1) sum))
    (gain := fun b q => (a : R) * b * (rootWeight weight h (q + 2 * h - p) + rootWeight weight h (p + 2 * h - q)))
    (fun sum b q length => by
      refine ⟨by simp only [addRoot_length, length], ?_⟩
      rw [weigh_addRoot weight _ _ (by simp only [addRoot_length, length]) pos, weigh_addRoot weight _ _ length pos]
      push_cast
      ring)
    y 0 length
  have total := foldl_zipIdx_measure (measure := weigh weight) (keeps := fun sum => sum.length = h)
    (f := fun sum p => y.zipIdx.foldl
      (fun sum q => addRoot h (q.2 + 2 * h - p.2) (p.1 * q.1) (addRoot h (p.2 + 2 * h - q.2) (p.1 * q.1) sum)) sum)
    (gain := fun a p => ∑ q ∈ Finset.range y.length, (a : R) * y.getD q 0 *
      (rootWeight weight h (q + 2 * h - p) + rootWeight weight h (p + 2 * h - q)))
    (fun sum a p length => by simpa only [zero_add] using inner a p length)
    x 0 (s := List.replicate h 0) (List.length_replicate ..)
  simpa only [weigh_replicate_zero, zero_add] using total

end

end Sys2Proof.Machine
end

section
/-! SUPPORT. The values of the power sums (R115, R119 to R122): ζ as a complex number, surds as sums of cosines, and the sum of
a bin over the segments added. -/

namespace Sys2Proof.Machine

/-! ### The angle of ζ -/

/-- The angle 2π/L of ζ for L = 2^(m + 2). -/
noncomputable def angle (m : Nat) : ℝ :=
  Real.pi / 2 ^ (m + 1)

/-- h angles are half a turn, with h = L/2. -/
theorem two_pow_mul_angle (m : Nat) : (2 ^ (m + 1) : ℝ) * angle m = Real.pi := by
  rw [angle]
  field_simp

theorem cosineOf_eq (m : Nat) : cosineOf m = 2 * Real.cos (angle m) := by
  rw [cosineOf, angle, Real.cos_pi_over_two_pow]
  ring

/-- The cosine does not see whole turns. -/
theorem cos_mod_mul_angle (m p : Nat) :
    Real.cos ((p % (2 * 2 ^ (m + 1)) : Nat) * angle m) = Real.cos (p * angle m) := by
  have whole : (p : ℝ) = (p % (2 * 2 ^ (m + 1)) : Nat) + (p / (2 * 2 ^ (m + 1)) : Nat) * (2 * 2 ^ (m + 1)) := by
    exact_mod_cast (Nat.mod_add_div' p (2 * 2 ^ (m + 1))).symm
  have turns : (p : ℝ) * angle m =
      (p % (2 * 2 ^ (m + 1)) : Nat) * angle m + (p / (2 * 2 ^ (m + 1)) : Nat) * (2 * Real.pi) := by
    rw [← two_pow_mul_angle m, whole]
    push_cast
    ring
  rw [turns, Real.cos_add_nat_mul_two_pi]

/-! ### The value of a surd (log 16) -/

theorem surdValue_cosPair (m i : Nat) : surdValue m (surdCosPair m i).1 = 2 * Real.cos (i * angle m) ∧
    surdValue m (surdCosPair m i).2 = 2 * Real.cos ((i + 1) * angle m) := by
  induction i with
  | zero => simp [surdCosPair, surdValue_ofInt, surdValue_cos, cosineOf_eq]
  | succ i ih =>
    obtain ⟨first, second⟩ := ih
    have next : Real.cos ((i + 1 + 1) * angle m) =
        2 * Real.cos (angle m) * Real.cos ((i + 1) * angle m) - Real.cos (i * angle m) := by
      have here : (i : ℝ) * angle m = (i + 1) * angle m - angle m := by ring
      rw [here, add_one_mul (i + 1 : ℝ), Real.cos_add, Real.cos_sub]
      ring
    refine ⟨?_, ?_⟩
    · push_cast
      exact second
    · rw [surdCosPair, surdValue_add, surdValue_mul, surdValue_neg, surdValue_cos, first, second, cosineOf_eq]
      push_cast
      rw [next]
      ring

theorem surdValue_cosMultiple (m i : Nat) : surdValue m (surdCosMultiple m i) = 2 * Real.cos (i * angle m) :=
  (surdValue_cosPair m i).1

/-- The weights under which a real sum is the value of its surd: 1, then 2cos(2πi/L), and nothing from L/4 on. -/
noncomputable def halfCosine (m i : Nat) : ℝ :=
  if i = 0 then 1 else if i < 2 ^ m then 2 * Real.cos (i * angle m) else 0

/-- A list of L/2 members as a surd (log 16). -/
theorem surdValue_surdOfSum {m : Nat} {sum : List Int} (length : sum.length = 2 ^ (m + 1)) :
    surdValue m (surdOfSum m sum) = weigh (halfCosine m) sum := by
  obtain ⟨n, quarter⟩ : ∃ n, 2 ^ m = n + 1 := Nat.exists_eq_add_of_lt (Nat.two_pow_pos m) |>.imp fun n => by omega
  cases sum with
  | nil => exact absurd length (Nat.two_pow_pos _).ne
  | cons s0 rest =>
    have restLength : rest.length = n + (n + 1) := by
      rw [List.length_cons, pow_succ, quarter] at length
      omega
    have taken : (rest.take n).length = n := by rw [List.length_take]; omega
    have listed : (((s0 :: rest).take (2 ^ m)).zipIdx.drop 1) = (rest.take n).zipIdx 1 := by
      rw [quarter, List.take_succ_cons, List.zipIdx_cons]
      rfl
    obtain ⟨-, total⟩ := foldl_zipIdx_measure (measure := surdValue m) (keeps := fun _ => True)
      (f := fun total p => surdAdd m total (surdMul m (surdOfInt m p.1) (surdCosMultiple m p.2)))
      (gain := fun x i => (x : ℝ) * (2 * Real.cos (i * angle m)))
      (fun total x i _ => ⟨trivial, by rw [surdValue_add, surdValue_mul, surdValue_ofInt, surdValue_cosMultiple]⟩)
      (rest.take n) 1 (s := surdOfInt m s0) trivial
    have near : ∑ k ∈ Finset.range n, (rest.getD k 0 : ℝ) * halfCosine m (k + 1) =
        ∑ k ∈ Finset.range n, ((rest.take n).getD k 0 : ℝ) * (2 * Real.cos ((1 + k : Nat) * angle m)) := by
      refine Finset.sum_congr rfl fun k mem => ?_
      have inside : k < n := Finset.mem_range.mp mem
      have member : (rest.take n).getD k 0 = rest.getD k 0 := by
        simp only [List.getD_eq_getElem?_getD, List.getElem?_take, if_pos inside]
      rw [member, halfCosine, if_neg (Nat.succ_ne_zero k), if_pos (by omega), Nat.add_comm k 1]
    have far : ∑ k ∈ Finset.range (n + 1), (rest.getD (n + k) 0 : ℝ) * halfCosine m (n + k + 1) = 0 := by
      refine Finset.sum_eq_zero fun k _ => ?_
      rw [halfCosine, if_neg (Nat.succ_ne_zero _), if_neg (by omega), mul_zero]
    rw [surdOfSum, listed, weigh, List.length_cons, Finset.sum_range_succ', restLength]
    simp only [List.getD_cons_succ, List.getD_cons_zero]
    rw [Finset.sum_range_add, near, far, add_zero]
    refine total.trans ?_
    rw [taken, surdValue_ofInt, halfCosine, if_pos rfl, mul_one, add_comm]

/-- Two powers of ζ that are inverse to each other are weighed as twice the cosine of their angle. -/
theorem halfCosine_sub {m a : Nat} (pos : 0 < a) (half : a < 2 ^ (m + 1)) :
    halfCosine m a - halfCosine m (2 ^ (m + 1) - a) = 2 * Real.cos (a * angle m) := by
  have double : 2 ^ (m + 1) = 2 * 2 ^ m := pow_succ' 2 m
  have mirrored : Real.cos ((2 ^ (m + 1) - a : Nat) * angle m) = -Real.cos (a * angle m) := by
    rw [Nat.cast_sub half.le]
    push_cast
    rw [sub_mul, two_pow_mul_angle, Real.cos_pi_sub]
  unfold halfCosine
  rw [if_neg pos.ne', if_neg (Nat.sub_ne_zero_of_lt half), mirrored]
  rcases lt_trichotomy a (2 ^ m) with below | same | above
  · rw [if_pos below, if_neg (by omega), sub_zero]
  · have right : (a : ℝ) * angle m = Real.pi / 2 := by
      rw [← two_pow_mul_angle m, same, pow_succ]
      push_cast
      ring
    rw [if_neg (by omega), if_neg (by omega), right, Real.cos_pi_div_two, sub_zero, mul_zero]
  · rw [if_neg (by omega), if_pos (by omega)]
    ring

theorem rootWeight_halfCosine {m p q : Nat} (inverse : (p + q) % (2 * 2 ^ (m + 1)) = 0) :
    rootWeight (halfCosine m) (2 ^ (m + 1)) p + rootWeight (halfCosine m) (2 ^ (m + 1)) q = 2 * Real.cos (p * angle m) := by
  have pos : 0 < 2 ^ (m + 1) := Nat.two_pow_pos _
  rw [← cos_mod_mul_angle, Nat.add_mod] at *
  unfold rootWeight
  have turned := two_pow_mul_angle m
  have first := Nat.mod_lt p (show 0 < 2 * 2 ^ (m + 1) by omega)
  have second := Nat.mod_lt q (show 0 < 2 * 2 ^ (m + 1) by omega)
  generalize p % (2 * 2 ^ (m + 1)) = a at *
  generalize q % (2 * 2 ^ (m + 1)) = b at *
  have zero : halfCosine m 0 = 1 := if_pos rfl
  have whole : a + b = 0 ∨ a + b = 2 * 2 ^ (m + 1) := by
    obtain ⟨c, multiple⟩ := Nat.dvd_of_mod_eq_zero inverse
    have few : c < 2 := by
      by_contra many
      have : 2 * 2 ^ (m + 1) * 2 ≤ 2 * 2 ^ (m + 1) * c := Nat.mul_le_mul_left _ (by omega)
      omega
    interval_cases c <;> omega
  rcases whole with none | whole
  · obtain rfl : a = 0 := by omega
    obtain rfl : b = 0 := by omega
    rw [if_pos pos, zero, Nat.cast_zero, zero_mul, Real.cos_zero]
    norm_num
  rcases lt_trichotomy a (2 ^ (m + 1)) with below | same | above
  · have rest : b - 2 ^ (m + 1) = 2 ^ (m + 1) - a := by omega
    rw [if_pos below, if_neg (by omega), rest, ← sub_eq_add_neg]
    exact halfCosine_sub (by omega) below
  · have other : b = 2 ^ (m + 1) := by omega
    rw [other, same, if_neg (lt_irrefl _), Nat.sub_self, zero]
    push_cast
    rw [turned, Real.cos_pi]
    norm_num
  · have rest : a - 2 ^ (m + 1) = 2 ^ (m + 1) - b := by omega
    have back : (a : ℝ) * angle m = 2 * Real.pi - b * angle m := by
      have sum : (a : ℝ) + b = 2 * 2 ^ (m + 1) := by exact_mod_cast whole
      rw [← turned]
      linear_combination angle m * sum
    rw [if_neg (by omega), if_pos (by omega), rest, neg_add_eq_sub, back, Real.cos_two_pi_sub]
    exact halfCosine_sub (by omega) (by omega)

end Sys2Proof.Machine
end

section
/-! SUPPORT. The power sums of a spectrum (R114, R118 to R122): the transforms as sums of powers of ζ, and what the segments
add to each bin. -/

namespace Sys2Proof.Machine

/-! ### ζ (log 16) -/

/-- ζ = e^(2πi/L) for L = 2^(m + 2). -/
noncomputable def zeta (m : Nat) : ℂ :=
  Complex.exp (angle m * Complex.I)

theorem zeta_pow (m p : Nat) : zeta m ^ p = Complex.exp ((p * angle m : ℝ) * Complex.I) := by
  rw [zeta, ← Complex.exp_nat_mul]
  congr 1
  push_cast
  ring

theorem zeta_pow_half (m : Nat) : zeta m ^ 2 ^ (m + 1) = -1 := by
  have turned : ((2 ^ (m + 1) : Nat) : ℝ) * angle m = Real.pi := by exact_mod_cast two_pow_mul_angle m
  rw [zeta_pow, turned, Complex.exp_pi_mul_I]

theorem zeta_pow_whole (m : Nat) : zeta m ^ (2 * 2 ^ (m + 1)) = 1 := by
  rw [mul_comm, pow_mul, zeta_pow_half, neg_one_sq]

theorem zeta_pow_mod (m p : Nat) : zeta m ^ (p % (2 * 2 ^ (m + 1))) = zeta m ^ p := by
  conv_rhs => rw [← Nat.mod_add_div p (2 * 2 ^ (m + 1)), pow_add, pow_mul, zeta_pow_whole, one_pow, mul_one]

theorem rootWeight_zeta (m p : Nat) : rootWeight (fun i => zeta m ^ i) (2 ^ (m + 1)) p = zeta m ^ p := by
  unfold rootWeight
  split
  · exact zeta_pow_mod m p
  · next beyond =>
    have back : zeta m ^ (p % (2 * 2 ^ (m + 1))) =
        -1 * zeta m ^ (p % (2 * 2 ^ (m + 1)) - 2 ^ (m + 1)) := by
      rw [← zeta_pow_half m, ← pow_add]
      congr 1
      omega
    rw [← zeta_pow_mod m p, back, neg_one_mul]

/-- The power that is taken for ζ^(−k). -/
theorem zeta_pow_back (m k : Nat) : zeta m ^ (2 * 2 ^ (m + 1) - k % (2 * 2 ^ (m + 1))) = (zeta m ^ k)⁻¹ := by
  have less : k % (2 * 2 ^ (m + 1)) < 2 * 2 ^ (m + 1) := Nat.mod_lt _ (by positivity)
  refine eq_inv_of_mul_eq_one_left ?_
  rw [← zeta_pow_mod m k, ← pow_add, Nat.sub_add_cancel less.le, zeta_pow_whole]

/-- The taper as powers of ζ (R119, R120). -/
theorem taper_eq (m n : Nat) :
    (2 - zeta m ^ n - zeta m ^ ((2 * 2 ^ (m + 1) - 1) * n) : ℂ) = 4 * taper (2 ^ (m + 2)) n := by
  have inverse : zeta m ^ ((2 * 2 ^ (m + 1) - 1) * n) = Complex.exp (-((n * angle m : ℝ) * Complex.I)) := by
    have back := zeta_pow_back m 1
    have one : 1 % (2 * 2 ^ (m + 1)) = 1 := Nat.mod_eq_of_lt (by have := Nat.two_pow_pos (m + 1); omega)
    rw [one, pow_one] at back
    rw [pow_mul, back, inv_pow, zeta_pow, Complex.exp_neg]
  have turn : 2 * Real.pi * n / (2 ^ (m + 2) : Nat) = n * angle m := by
    rw [angle, pow_succ 2 (m + 1)]
    push_cast
    ring
  have cosine : (Real.cos (n * angle m) : ℂ) =
      (Complex.exp ((n * angle m : ℝ) * Complex.I) + Complex.exp (-((n * angle m : ℝ) * Complex.I))) / 2 := by
    rw [Complex.ofReal_cos, Complex.cos, neg_mul]
  rw [zeta_pow, inverse, taper, turn]
  push_cast at *
  rw [cosine]
  ring

/-! ### One segment (R119 to R122) -/

/-- The value of a transform is four times the exact one. -/
theorem weigh_zeta_transform {m : Nat} (k : Nat) {segment : List Int} (fits : segment.length ≤ 2 ^ (m + 2)) :
    weigh (fun i => zeta m ^ i) (transform (2 ^ (m + 1)) k segment) = 4 * exactTransform (2 ^ (m + 2)) k segment := by
  have beyond : ∑ n ∈ Finset.range (2 ^ (m + 2)), (taper (2 ^ (m + 2)) n : ℂ) * (segment.getD n 0 : ℤ) *
        Complex.exp (-(2 * Real.pi * Complex.I * k * n / (2 ^ (m + 2) : Nat))) =
      ∑ n ∈ Finset.range segment.length, (taper (2 ^ (m + 2)) n : ℂ) * (segment.getD n 0 : ℤ) *
        Complex.exp (-(2 * Real.pi * Complex.I * k * n / (2 ^ (m + 2) : Nat))) := by
    refine (Finset.sum_subset (Finset.range_mono fits) fun n _ outside => ?_).symm
    rw [List.getD_eq_default _ _ (by simpa using outside), Int.cast_zero, mul_zero, zero_mul]
  rw [(weigh_transform _ k segment (Nat.two_pow_pos _)).2, exactTransform, beyond, Finset.mul_sum]
  refine Finset.sum_congr rfl fun n _ => ?_
  have turn : zeta m ^ ((2 * 2 ^ (m + 1) - k % (2 * 2 ^ (m + 1))) * n) =
      Complex.exp (-(2 * Real.pi * Complex.I * k * n / (2 ^ (m + 2) : Nat))) := by
    rw [pow_mul, zeta_pow_back, inv_pow, ← pow_mul, zeta_pow, ← Complex.exp_neg]
    congr 1
    rw [angle, pow_succ 2 (m + 1)]
    push_cast
    field_simp
  simp only [rootWeight_zeta]
  rw [pow_add (zeta m), pow_add (zeta m), turn]
  linear_combination (segment.getD n 0 : ℂ) *
    Complex.exp (-(2 * Real.pi * Complex.I * k * n / (2 ^ (m + 2) : Nat))) * taper_eq m n

/-- The real part of a product of two sums of powers of ζ. -/
theorem re_weigh_zeta_mul (m : Nat) (x y : List Int) :
    (weigh (fun i => zeta m ^ i) x * (starRingEnd ℂ) (weigh (fun i => zeta m ^ i) y)).re =
      ∑ p ∈ Finset.range x.length, ∑ q ∈ Finset.range y.length,
        (x.getD p 0 : ℝ) * y.getD q 0 * Real.cos (((p : ℝ) - q) * angle m) := by
  have conjugate (q : Nat) : (starRingEnd ℂ) (zeta m ^ q) = Complex.exp (-((q * angle m : ℝ) * Complex.I)) := by
    rw [zeta_pow, ← Complex.exp_conj, map_mul, Complex.conj_ofReal, Complex.conj_I, mul_neg]
  have one (p q : Nat) (a b : Int) : ((a : ℂ) * zeta m ^ p * ((b : ℂ) * (starRingEnd ℂ) (zeta m ^ q))).re =
      (a : ℝ) * b * Real.cos (((p : ℝ) - q) * angle m) := by
    have together : (a : ℂ) * zeta m ^ p * ((b : ℂ) * (starRingEnd ℂ) (zeta m ^ q)) =
        ((a * b : ℝ) : ℂ) * Complex.exp (((((p : ℝ) - q) * angle m : ℝ) : ℂ) * Complex.I) := by
      rw [conjugate, zeta_pow, mul_mul_mul_comm, ← Complex.exp_add]
      push_cast
      congr 2
      ring
    rw [together, Complex.re_ofReal_mul, Complex.exp_ofReal_mul_I_re]
  unfold weigh
  rw [map_sum, Finset.sum_mul_sum, Complex.re_sum]
  refine Finset.sum_congr rfl fun p _ => ?_
  rw [Complex.re_sum]
  refine Finset.sum_congr rfl fun q _ => ?_
  rw [map_mul, map_intCast, one]

/-- What one segment adds to the sum of a bin (R122). -/
theorem weigh_binPower {m : Nat} (k : Nat) {x y : List Int} (fitsX : x.length ≤ 2 ^ (m + 2)) (fitsY : y.length ≤ 2 ^ (m + 2)) :
    (binPower (2 ^ (m + 1)) k x y).length = 2 ^ (m + 1) ∧ weigh (halfCosine m) (binPower (2 ^ (m + 1)) k x y) =
      32 * (exactTransform (2 ^ (m + 2)) k x * (starRingEnd ℂ) (exactTransform (2 ^ (m + 2)) k y)).re := by
  have pos : 0 < 2 ^ (m + 1) := Nat.two_pow_pos _
  obtain ⟨length, value⟩ := weigh_twiceRealProduct (halfCosine m) (transform (2 ^ (m + 1)) k x)
    (transform (2 ^ (m + 1)) k y) pos
  have lengthX := (weigh_transform (halfCosine m) k x pos).1
  have lengthY := (weigh_transform (halfCosine m) k y pos).1
  refine ⟨length, value.trans ?_⟩
  have product := re_weigh_zeta_mul m (transform (2 ^ (m + 1)) k x) (transform (2 ^ (m + 1)) k y)
  rw [weigh_zeta_transform k fitsX, weigh_zeta_transform k fitsY] at product
  have factored : (4 * exactTransform (2 ^ (m + 2)) k x *
      (starRingEnd ℂ) (4 * exactTransform (2 ^ (m + 2)) k y)).re =
      16 * (exactTransform (2 ^ (m + 2)) k x * (starRingEnd ℂ) (exactTransform (2 ^ (m + 2)) k y)).re := by
    have four : (starRingEnd ℂ) 4 = 4 := map_ofNat _ 4
    rw [map_mul, four, mul_mul_mul_comm]
    norm_num
  rw [factored] at product
  have twice : (32 : ℝ) = 2 * 16 := by norm_num
  rw [twice, mul_assoc, product, Finset.mul_sum]
  refine Finset.sum_congr rfl fun p memP => ?_
  rw [Finset.mul_sum]
  refine Finset.sum_congr rfl fun q memQ => ?_
  have lessP : p < 2 ^ (m + 1) := lengthX ▸ Finset.mem_range.mp memP
  have lessQ : q < 2 ^ (m + 1) := lengthY ▸ Finset.mem_range.mp memQ
  have inverse : (q + 2 * 2 ^ (m + 1) - p + (p + 2 * 2 ^ (m + 1) - q)) % (2 * 2 ^ (m + 1)) = 0 := by
    have whole : q + 2 * 2 ^ (m + 1) - p + (p + 2 * 2 ^ (m + 1) - q) = 2 * 2 ^ (m + 1) * 2 := by omega
    rw [whole, Nat.mul_mod_right]
  have cosine : Real.cos ((q + 2 * 2 ^ (m + 1) - p : Nat) * angle m) = Real.cos (((p : ℝ) - q) * angle m) := by
    have turns : ((q + 2 * 2 ^ (m + 1) - p : Nat) : ℝ) * angle m = 2 * Real.pi - ((p : ℝ) - q) * angle m := by
      rw [Nat.cast_sub (by omega), ← two_pow_mul_angle m]
      push_cast
      ring
    rw [turns, Real.cos_two_pi_sub]
  rw [rootWeight_halfCosine inverse, cosine]
  ring

/-! ### All segments (R114, R118) -/

theorem addSegment_sums_length (tie1 tie2 : List Int) (sp : Spectrum) :
    (addSegment tie1 tie2 sp).sums.length = sp.sums.length := by
  simp [addSegment]

theorem getD_addSegment_sums {tie1 tie2 : List Int} {sp : Spectrum} {i : Nat} (inside : i < sp.sums.length) :
    (addSegment tie1 tie2 sp).sums.getD i [] = addSums (sp.sums.getD i [])
      (binPower (2 ^ sp.exponent / 2) (i + 1) (segmentOf sp.exponent sp.segment tie1)
        (segmentOf sp.exponent sp.segment tie2)) := by
  simp [addSegment, inside]

/-- What has become of a spectrum after so many segments: each bin's sum has grown by the power of each. -/
theorem addSegments_spec {m : Nat} (tie1 tie2 : List Int) (count : Nat) {sp : Spectrum} (exponent : sp.exponent = m + 2)
    (lengths : ∀ i < sp.sums.length, (sp.sums.getD i []).length = 2 ^ (m + 1)) :
    (addSegments tie1 tie2 count sp).segment = sp.segment + count ∧
    (addSegments tie1 tie2 count sp).sums.length = sp.sums.length ∧
    ∀ i < sp.sums.length, ((addSegments tie1 tie2 count sp).sums.getD i []).length = 2 ^ (m + 1) ∧
      weigh (halfCosine m) ((addSegments tie1 tie2 count sp).sums.getD i []) =
        weigh (halfCosine m) (sp.sums.getD i []) + ∑ j ∈ Finset.range count,
          weigh (halfCosine m) (binPower (2 ^ (m + 1)) (i + 1) (segmentOf (m + 2) (sp.segment + j) tie1)
            (segmentOf (m + 2) (sp.segment + j) tie2)) := by
  induction count generalizing sp with
  | zero => exact ⟨rfl, rfl, fun i inside => ⟨lengths i inside, by simp [addSegments]⟩⟩
  | succ count ih =>
    have half : 2 ^ sp.exponent / 2 = 2 ^ (m + 1) := by
      rw [exponent, pow_succ]
      exact Nat.mul_div_cancel _ (by decide)
    have segmentLength (j : Nat) (tie : List Int) : (segmentOf (m + 2) j tie).length ≤ 2 ^ (m + 2) :=
      List.length_take_le ..
    have added (i : Nat) (inside : i < sp.sums.length) : (addSegment tie1 tie2 sp).sums.getD i [] =
        addSums (sp.sums.getD i []) (binPower (2 ^ (m + 1)) (i + 1) (segmentOf (m + 2) sp.segment tie1)
          (segmentOf (m + 2) sp.segment tie2)) := by
      rw [getD_addSegment_sums inside, half, exponent]
    have powerLength (i : Nat) := (weigh_binPower (m := m) (i + 1) (segmentLength sp.segment tie1)
      (segmentLength sp.segment tie2)).1
    have count_sums := addSegment_sums_length tie1 tie2 sp
    obtain ⟨segment, sums, rest⟩ := ih (sp := addSegment tie1 tie2 sp) exponent fun i inside => by
      rw [added i (count_sums ▸ inside), addSums, List.length_zipWith, lengths i (count_sums ▸ inside), powerLength,
        Nat.min_self]
    refine ⟨segment.trans ?_, sums.trans count_sums, fun i inside => ?_⟩
    · exact Nat.add_right_comm ..
    · obtain ⟨length, value⟩ := rest i (count_sums.symm ▸ inside)
      refine ⟨length, value.trans ?_⟩
      rw [added i inside, weigh_addSums _ ((powerLength i).trans (lengths i inside).symm), Finset.sum_range_succ', add_assoc,
        add_comm (weigh _ (binPower _ _ _ _))]
      simp only [addSegment, Nat.add_zero, Nat.add_assoc, Nat.add_comm 1]

/-- Settles O54: each operation adds to the weight of a sum what it says it adds, and the weight is the surd's value. -/
theorem powerSumsAreExact : Obligations.PowerSumsAreExact := by
  unfold Obligations.PowerSumsAreExact
  intro m count tie1 tie2 length empty finished y
  have half : length / 2 = 2 ^ (m + 1) := by
    rw [show length = 2 ^ (m + 1) * 2 from pow_succ 2 (m + 1)]
    exact Nat.mul_div_cancel _ (by decide)
  have emptyLength : empty.sums.length = length / 2 - 1 := List.length_replicate ..
  have blank (i : Nat) (inside : i < empty.sums.length) : empty.sums.getD i [] = List.replicate (2 ^ (m + 1)) 0 := by
    rw [← half]
    rw [emptyLength] at inside
    simp [empty, inside]
  obtain ⟨segment, sums, values⟩ := addSegments_spec (m := m) tie1 tie2 count (sp := empty) rfl
    fun i inside => by rw [blank i inside, List.length_replicate]
  refine ⟨segment.trans (Nat.zero_add count), sums.trans emptyLength, fun k least most => ?_⟩
  have inside : k - 1 < empty.sums.length := by rw [emptyLength]; omega
  obtain ⟨sumLength, value⟩ := values (k - 1) inside
  rw [surdValue_surdOfSum sumLength]
  refine value.trans ?_
  rw [blank _ inside, weigh_replicate_zero, zero_add, Finset.mul_sum, Nat.sub_add_cancel least]
  refine Finset.sum_congr rfl fun j _ => ?_
  have segmentLength (tie : List Int) : (segmentOf (m + 2) (empty.segment + j) tie).length ≤ 2 ^ (m + 2) :=
    List.length_take_le ..
  rw [(weigh_binPower k (segmentLength tie1) (segmentLength tie2)).2, Nat.zero_add]
  rfl

end Sys2Proof.Machine
end

section
/-! SUPPORT. Band figures and spot figures (R109, R115, R124 to R130): the exact value of a corrected power, the bins of a band
and of a spot, and that each figure is the rounding of its exact value. -/

namespace Sys2Proof.Machine

/-! ### The search for the greatest -/

/-- A test that holds up to some number finds it, or the greatest number searched. -/
theorem greatestFrom_eq_min {holds : Nat → Bool} {greatest : Nat} (upTo : ∀ n, holds n = true ↔ n ≤ greatest) (bits : Nat)
    {r : Nat} (start : r ≤ greatest) : greatestFrom holds bits r = min greatest (r + 2 ^ bits - 1) := by
  induction bits generalizing r with
  | zero =>
    rw [greatestFrom, pow_zero, Nat.add_sub_cancel]
    exact (Nat.min_eq_right start).symm
  | succ bits ih =>
    have doubled : 2 ^ (bits + 1) = 2 ^ bits + 2 ^ bits := by rw [pow_succ, Nat.mul_two]
    unfold greatestFrom
    split
    · next half =>
      rw [ih ((upTo _).mp half), doubled, Nat.add_assoc]
    · next half =>
      have less : greatest < r + 2 ^ bits := by
        by_contra reached
        exact half ((upTo _).mpr (Nat.le_of_not_lt reached))
      rw [ih start, doubled]
      omega

/-! ### The value of a power (R115, R126, R128) -/

/-- The real number that a power stands for (log 16). -/
noncomputable def powerValue (m : Nat) (power : List Int) : ℝ :=
  surdValue m (surdOfSum m power)

theorem powerSign_nonpos_iff {m : Nat} {sp : Spectrum} (exponent : sp.exponent = m + 2) (power : List Int) :
    powerSign sp power ≤ 0 ↔ powerValue m power ≤ 0 := by
  have level : sp.exponent - 2 = m := by omega
  rw [powerSign, surdSign_nonpos, level]
  rfl

theorem powerReaches_iff {m : Nat} {sp : Spectrum} (exponent : sp.exponent = m + 2) (power : List Int) (a b : Nat) :
    powerReaches sp power a b = true ↔ (b : ℝ) ≤ a * powerValue m power := by
  have level : sp.exponent - 2 = m := by omega
  unfold powerReaches powerValue
  dsimp only
  rw [level, decide_eq_true_eq, surdSign_nonneg, surdValue_add, surdValue_mul, surdValue_ofInt, surdValue_ofInt]
  push_cast
  rw [← sub_eq_add_neg, sub_nonneg]

theorem foldl_addSums {m : Nat} {bins : List (List Int)} (lengths : ∀ sum ∈ bins, sum.length = 2 ^ (m + 1)) {start : List Int}
    (length : start.length = 2 ^ (m + 1)) : (bins.foldl addSums start).length = 2 ^ (m + 1) ∧
      weigh (halfCosine m) (bins.foldl addSums start) =
        weigh (halfCosine m) start + (bins.map (weigh (halfCosine m))).sum := by
  induction bins generalizing start with
  | nil => simp [length]
  | cons bin bins ih =>
    have binLength : bin.length = 2 ^ (m + 1) := lengths bin List.mem_cons_self
    have added : (addSums start bin).length = 2 ^ (m + 1) := by simp [addSums, length, binLength]
    obtain ⟨total, value⟩ := ih (fun sum mem => lengths sum (List.mem_cons_of_mem _ mem)) added
    refine ⟨total, value.trans ?_⟩
    rw [weigh_addSums _ (binLength.trans length.symm), List.map_cons, List.sum_cons, add_assoc]

/-- The power over bins, less what the floor takes of each. -/
theorem powerValue_correctedPower {m : Nat} {sp : Spectrum} (exponent : sp.exponent = m + 2) {bins : List (List Int)}
    (lengths : ∀ sum ∈ bins, sum.length = 2 ^ (m + 1)) (floorSquare : Nat) :
    powerValue m (correctedPower sp bins floorSquare) =
      (bins.map (powerValue m)).sum - 12 * bins.length * floorSquare * sp.segments * 2 ^ (m + 2) := by
  have half : 2 ^ sp.exponent / 2 = 2 ^ (m + 1) := by
    rw [exponent, pow_succ]
    exact Nat.mul_div_cancel _ (by decide)
  have values : bins.map (powerValue m) = bins.map (weigh (halfCosine m)) :=
    List.map_congr_left fun sum mem => surdValue_surdOfSum (lengths sum mem)
  obtain ⟨length, total⟩ := foldl_addSums lengths (start := List.replicate (2 ^ (m + 1)) 0) (List.length_replicate ..)
  have one : halfCosine m 0 = 1 := if_pos rfl
  unfold correctedPower
  dsimp only
  rw [half, powerValue, surdValue_surdOfSum ((List.length_modify ..).trans length),
    weigh_modify _ (by rw [length]; positivity), total, weigh_replicate_zero, zero_add, values, one, exponent]
  push_cast
  ring

/-- The value of a power with its scale taken off: G summed over bins, less the floor's share of each (R126). -/
theorem powerValue_scaled {m : Nat} {sp : Spectrum} (exponent : sp.exponent = m + 2) (some : 0 < sp.segments)
    {bins : List (List Int)} (lengths : ∀ sum ∈ bins, sum.length = 2 ^ (m + 1)) (floorSquare : Nat) :
    powerValue m (correctedPower sp bins floorSquare) = 6 * sp.segments * (2 ^ (m + 2)) ^ 2 *
      ((bins.map (powerValue m)).sum / 32 * 16 / (3 * sp.segments * (2 ^ (m + 2)) ^ 2) -
        2 * bins.length * floorSquare / 2 ^ (m + 2)) := by
  have segments_ne : (sp.segments : ℝ) ≠ 0 := by exact_mod_cast some.ne'
  have length_ne : (2 : ℝ) ^ (m + 2) ≠ 0 := by positivity
  rw [powerValue_correctedPower exponent lengths]
  generalize (2 : ℝ) ^ (m + 2) = length at *
  field_simp
  ring

/-! ### The bins of a band (R124, R125) -/

theorem ceilDiv_le_iff {num den k : Nat} (pos : 0 < den) : ceilDiv num den ≤ k ↔ num ≤ k * den := by
  rw [ceilDiv, ← Nat.lt_succ_iff, Nat.div_lt_iff_lt_mul pos, Nat.succ_mul]
  omega

/-- The formed bins whose frequency lies in a band are those from its first to its last. -/
theorem bandBins_eq {fLo fHi fNom prescale length : Nat} (pos : 0 < fNom) :
    ((Finset.Icc 1 (length / 2 - 1)).filter fun k =>
      fLo * prescale * length ≤ k * fNom ∧ k * fNom ≤ fHi * prescale * length) =
      Finset.Icc (firstBin fLo fNom prescale length) (lastBin fHi fNom prescale length) := by
  ext k
  rw [Finset.mem_filter, Finset.mem_Icc, Finset.mem_Icc, firstBin, lastBin, max_le_iff, le_min_iff, ceilDiv_le_iff pos,
    Nat.le_div_iff_mul_le pos]
  tauto

theorem bandClips_eq (fLo fHi fNom prescale length : Nat) : bandClips (fLo, fHi) fNom prescale length =
    decide (fLo * prescale * length < fNom ∨ (length / 2 - 1) * fNom < fHi * prescale * length) := by
  rw [bandClips, Bool.decide_or]

/-- So many members of a list from one on, summed. -/
theorem sum_map_take_drop {α : Type} (value : α → ℝ) (default : α) {l : List α} {first count : Nat}
    (within : first + count ≤ l.length) : (((l.drop first).take count).map value).sum =
      ∑ i ∈ Finset.range count, value (l.getD (first + i) default) := by
  have length : (((l.drop first).take count).map value).length = count := by simp; omega
  rw [← Fin.sum_univ_getElem, Finset.sum_range]
  refine Fintype.sum_equiv (finCongr length) _ _ fun i => ?_
  have inside : first + i.val < l.length := by have := i.isLt; omega
  simp [inside]

theorem sum_bins {m : Nat} {sums : List (List Int)} {first last : Nat} (least : 1 ≤ first) (most : last ≤ sums.length) :
    (((sums.drop (first - 1)).take (last + 1 - first)).map (powerValue m)).sum =
      ∑ k ∈ Finset.Icc first last, powerValue m (sums.getD (k - 1) []) := by
  have interval : Finset.Icc first last = Finset.Ico first (last + 1) := rfl
  rcases Nat.lt_or_ge last first with none | some
  · rw [Finset.Icc_eq_empty (by omega), Nat.sub_eq_zero_of_le none]
    simp
  · rw [sum_map_take_drop _ [] (by omega), interval, Finset.sum_Ico_eq_sum_range]
    refine Finset.sum_congr rfl fun i _ => ?_
    rw [Nat.sub_add_comm least]

/-! ### Band figures (R109, R126) -/

/-- The nearest integer, ties up, of a number that is not negative. -/
theorem floor_add_half_bounds {x : ℝ} (nonneg : 0 ≤ x) :
    (⌊x + 1 / 2⌋₊ : ℝ) - 1 / 2 ≤ x ∧ x < (⌊x + 1 / 2⌋₊ : ℝ) + 1 / 2 := by
  have low := Nat.floor_le (show 0 ≤ x + 1 / 2 by linarith)
  have high := Nat.lt_floor_add_one (x + 1 / 2)
  constructor <;> linarith

/-- Whether √S in femtoseconds is n − 1/2 at least, in whole numbers. -/
theorem bandReaches_iff {segments length : Nat} {s : ℝ} (segments_pos : 0 < segments) (length_pos : 0 < length) (pos : 0 < s)
    {n : Nat} (some : 1 ≤ n) : (((2 * n - 1) ^ 2 * 32768 ^ 2 * 6 * segments * length ^ 2 : Nat) : ℝ) ≤
        ((4 * 78125 ^ 2 : Nat) : ℝ) * (6 * segments * (length : ℝ) ^ 2 * s) ↔
      (n : ℝ) ≤ Real.sqrt s * 78125 / 32768 + 1 / 2 := by
  have scale : (0 : ℝ) < 6 * segments * (length : ℝ) ^ 2 := by positivity
  have root := Real.sq_sqrt pos.le
  have odd : ((2 * n - 1 : Nat) : ℝ) = 2 * n - 1 := by
    rw [Nat.cast_sub (by omega)]
    push_cast
    rfl
  have odd_nonneg : (0 : ℝ) ≤ 2 * n - 1 := by rw [← odd]; positivity
  have left : (((2 * n - 1) ^ 2 * 32768 ^ 2 * 6 * segments * length ^ 2 : Nat) : ℝ) =
      6 * segments * (length : ℝ) ^ 2 * ((2 * n - 1) * 32768) ^ 2 := by
    push_cast
    rw [odd]
    ring
  have right : ((4 * 78125 ^ 2 : Nat) : ℝ) * (6 * segments * (length : ℝ) ^ 2 * s) =
      6 * segments * (length : ℝ) ^ 2 * (2 * 78125 * Real.sqrt s) ^ 2 := by
    push_cast
    rw [mul_pow _ (Real.sqrt s), root]
    ring
  rw [left, right, mul_le_mul_iff_right₀ scale, sq_le_sq₀ (by positivity) (by positivity)]
  constructor <;> intro reach <;> linarith

theorem bandValue_eq {m : Nat} {sp : Spectrum} (exponent : sp.exponent = m + 2) (some : 0 < sp.segments) {power : List Int}
    {s : ℝ} (value : powerValue m power = 6 * sp.segments * (2 ^ (m + 2)) ^ 2 * s) (pos : 0 < s) :
    bandValue sp power = min ⌊Real.sqrt s * 78125 / 32768 + 1 / 2⌋₊ (2 ^ 33 - 1) := by
  have lengthCast : ((2 ^ (m + 2) : Nat) : ℝ) = 2 ^ (m + 2) := Nat.cast_pow 2 (m + 2)
  refine (greatestFrom_eq_min (fun n => ?_) 33 (Nat.zero_le _)).trans (by rw [Nat.zero_add])
  rw [Nat.le_floor_iff (by positivity), Bool.or_eq_true, decide_eq_true_eq, powerReaches_iff exponent, value, exponent, ← lengthCast]
  rcases Nat.eq_zero_or_pos n with rfl | positive
  · refine iff_of_true (.inl rfl) ?_
    push_cast
    positivity
  · rw [← bandReaches_iff some (Nat.two_pow_pos (m + 2)) pos positive]
    exact or_iff_right positive.ne'

/-- A band with a bin has the figure of its power, marked where it is clipped. -/
theorem bandFigure_of_bins {sp : Spectrum} {fNom prescale floorSquare : Nat} {band : Nat × Nat}
    (some : firstBin band.1 fNom prescale (2 ^ sp.exponent) ≤ lastBin band.2 fNom prescale (2 ^ sp.exponent)) :
    bandFigure sp fNom prescale floorSquare band =
      let first := firstBin band.1 fNom prescale (2 ^ sp.exponent)
      let last := lastBin band.2 fNom prescale (2 ^ sp.exponent)
      let power := correctedPower sp ((sp.sums.drop (first - 1)).take (last + 1 - first)) floorSquare
      let f := if powerSign sp power ≤ 0 then floorFigure else saturated (bandValue sp power)
      { f with flags := { f.flags with bandClipped := bandClips band fNom prescale (2 ^ sp.exponent) } } :=
  if_neg (Nat.not_lt.mpr some)

theorem bandFigure_of_none {sp : Spectrum} {fNom prescale : Nat} (floorSquare : Nat) {band : Nat × Nat}
    (none : lastBin band.2 fNom prescale (2 ^ sp.exponent) < firstBin band.1 fNom prescale (2 ^ sp.exponent)) :
    bandFigure sp fNom prescale floorSquare band =
      { value := Option.none
        flags := { bandClipped := bandClips band fNom prescale (2 ^ sp.exponent), bandEmpty := true } } :=
  if_pos none

/-- Settles O55: the bins are an interval, the power is the exact one times a scale, and the search stops at its root's
rounding. -/
theorem bandFiguresAreExact : Obligations.BandFiguresAreExact := by
  unfold Obligations.BandFiguresAreExact
  intro m fNom prescale floorSquare fLo fHi sp exponent some pos sumsLength lengths length p bins clipped power figure
  let first := firstBin fLo fNom prescale length
  let last := lastBin fHi fNom prescale length
  have interval : bins = Finset.Icc first last := bandBins_eq pos
  have half : length / 2 - 1 = sp.sums.length := by
    rw [sumsLength, show length = 2 ^ (m + 1) * 2 from pow_succ 2 (m + 1), Nat.mul_div_cancel _ (by decide)]
  have most : last ≤ sp.sums.length := half ▸ Nat.min_le_left _ _
  have least : 1 ≤ first := Nat.le_max_left _ _
  have wide : 2 ^ sp.exponent = length := by rw [exponent]
  have clips : bandClips (fLo, fHi) fNom prescale length = clipped := bandClips_eq ..
  have empty_iff : bins = ∅ ↔ last < first := by rw [interval, Finset.Icc_eq_empty_iff, Nat.not_le]
  let taken := (sp.sums.drop (first - 1)).take (last + 1 - first)
  have takenLengths : ∀ sum ∈ taken, sum.length = 2 ^ (m + 1) := fun sum mem =>
    lengths sum (List.mem_of_mem_drop (List.mem_of_mem_take mem))
  have card : taken.length = bins.card := by
    rw [interval, Nat.card_Icc, List.length_take, List.length_drop]
    omega
  have value : powerValue m (correctedPower sp taken floorSquare) = 6 * sp.segments * (2 ^ (m + 2)) ^ 2 * power := by
    rw [powerValue_scaled exponent some takenLengths, card, sum_bins least most, ← interval]
    congr 1
    have each : ∑ k ∈ bins, 16 * p k / (3 * sp.segments * (length : ℝ) ^ 2) =
        (∑ k ∈ bins, powerValue m (sp.sums.getD (k - 1) [])) / 32 * 16 / (3 * sp.segments * (2 ^ (m + 2)) ^ 2) := by
      rw [Finset.sum_div, Finset.sum_mul, Finset.sum_div]
      refine Finset.sum_congr rfl fun k _ => ?_
      rw [mul_comm 16]
      push_cast [length]
      rfl
    rw [← each]
    push_cast [power, length]
    rfl
  have scale : (0 : ℝ) < 6 * sp.segments * (2 ^ (m + 2)) ^ 2 := by
    have segments_pos : (0 : ℝ) < sp.segments := by exact_mod_cast some
    positivity
  refine ⟨fun empty => ?_, fun nonempty nonpos => ?_, fun nonempty positive => ?_⟩
  · have none := bandFigure_of_none (sp := sp) (band := (fLo, fHi)) floorSquare (by rw [wide]; exact empty_iff.mp empty)
    rw [wide, clips] at none
    exact none
  all_goals
    have formed := bandFigure_of_bins (sp := sp) (band := (fLo, fHi)) (floorSquare := floorSquare)
      (by rw [wide]; exact Nat.not_lt.mp (mt empty_iff.mpr nonempty))
    rw [wide, clips] at formed
  · have floored : powerSign sp (correctedPower sp taken floorSquare) ≤ 0 := by
      rw [powerSign_nonpos_iff exponent, value]
      exact mul_nonpos_of_nonneg_of_nonpos scale.le nonpos
    refine formed.trans ?_
    dsimp only
    rw [if_pos floored]
    rfl
  · have above : ¬powerSign sp (correctedPower sp taken floorSquare) ≤ 0 := by
      rw [powerSign_nonpos_iff exponent, value]
      exact not_le.mpr (mul_pos scale positive)
    obtain ⟨low, high⟩ := floor_add_half_bounds (x := Real.sqrt power * 78125 / 32768) (by positivity)
    refine ⟨⌊Real.sqrt power * 78125 / 32768 + 1 / 2⌋₊, low, high, formed.trans ?_⟩
    dsimp only
    rw [if_neg above, bandValue_eq exponent some value positive, saturated_eq]
    generalize ⌊Real.sqrt power * 78125 / 32768 + 1 / 2⌋₊ = fs
    rcases Nat.lt_or_ge 4294967295 fs with beyond | within
    · rw [if_neg (by omega), if_neg (by omega)]
    · rw [if_pos (by omega), if_pos within, Nat.min_eq_left (by omega)]

/-! ### The bin of a spot (R127) -/

/-- The nearest bin, moved into the formed ones. -/
theorem spotBin_eq {fO fNom prescale length : Nat} (some : 1 ≤ length / 2 - 1) : spotBin fO fNom prescale length =
    let nearest := spotBinRaw fO fNom prescale length
    if nearest < 1 then 1 else if length / 2 - 1 < nearest then length / 2 - 1 else nearest := by
  dsimp only
  rw [spotBin]
  split_ifs with low high
  · omega
  · omega
  · omega

theorem spotBin_bounds {fO fNom prescale length : Nat} (some : 1 ≤ length / 2 - 1) :
    1 ≤ spotBin fO fNom prescale length ∧ spotBin fO fNom prescale length ≤ length / 2 - 1 := by
  rw [spotBin]
  omega

/-! ### Spot figures (R129, R130) -/

/-- A level that reaches what lies up to N is N, clamped (R130). -/
theorem spotLevel_eq {reaches : Int → Bool} {greatest : Int} (upTo : ∀ n, reaches n = true ↔ n ≤ greatest) :
    spotLevel reaches = if greatest < -20000 then { value := some (-20000), flags := { saturated := true } }
      else if 0 < greatest then { value := some 0, flags := { saturated := true } }
      else { value := some greatest } := by
  have notReached (n : Int) : reaches n = false ↔ greatest < n := by rw [← not_le, ← upTo, Bool.not_eq_true]
  unfold spotLevel
  rcases lt_or_ge greatest (-20000) with below | within
  · rw [(notReached _).mpr below, if_pos below]
    rfl
  · rw [(upTo _).mpr within, if_neg (not_lt.mpr within)]
    rcases lt_or_ge 0 greatest with above | inside
    · rw [(upTo 1).mpr above, if_pos above]
      rfl
    · have search : greatestFrom (fun n => decide (n ≤ 20000) && reaches ((n : Int) - 20000)) 15 0 =
          (greatest + 20000).toNat := by
        refine (greatestFrom_eq_min (greatest := (greatest + 20000).toNat) (fun n => ?_) 15 (Nat.zero_le _)).trans ?_
        · rw [Bool.and_eq_true, decide_eq_true_eq, upTo]
          omega
        · omega
      have value : (((greatest + 20000).toNat : Nat) : Int) - 20000 = greatest := by omega
      rw [(notReached 1).mpr (by omega), if_neg (not_lt.mpr inside), search, value]
      rfl

/-- The level of a spot, from the value of its corrected power (R129). -/
theorem spotArgument_eq {segments length fNom prescale g : ℝ} (segments_ne : segments ≠ 0) (length_ne : length ≠ 0) :
    6 * segments * length ^ 2 * g * (78125 ^ 2 * fNom * prescale) * Real.pi ^ 2 /
        (3 * segments * length * 32768 ^ 2 * 10 ^ 30) =
      g * (78125 / 32768 / 10 ^ 15) ^ 2 * (2 * Real.pi ^ 2) * fNom * prescale * length := by
  field_simp
  ring

/-- A boundary of the level is reached when it is at or below the level's rounding (R129). -/
theorem spotReaches_iff_le_floor {m fNom prescale : Nat} {sp : Spectrum} (exponent : sp.exponent = m + 2) (some : 0 < sp.segments)
    (pos : 0 < fNom) (positive : 0 < prescale) {power : List Int} {g : ℝ}
    (value : powerValue m power = 6 * sp.segments * ((2 ^ sp.exponent : Nat) : ℝ) ^ 2 * g) (above : 0 < g) (n : Int) :
    spotReaches sp power (78125 ^ 2 * fNom * prescale) (3 * sp.segments * 2 ^ sp.exponent * 32768 ^ 2 * 10 ^ 30) n = true ↔
      n ≤ ⌊1000 * Real.logb 10 (g * (78125 / 32768 / 10 ^ 15) ^ 2 * (2 * Real.pi ^ 2) * fNom * prescale *
        (2 ^ sp.exponent : Nat)) + 1 / 2⌋ := by
  have lower : sp.exponent - 2 = m := by omega
  have segments_pos : (0 : ℝ) < sp.segments := by exact_mod_cast some
  have length_pos : (0 : ℝ) < (2 ^ sp.exponent : Nat) := by exact_mod_cast Nat.two_pow_pos sp.exponent
  have power_pos : 0 < powerValue m power := by rw [value]; positivity
  have factorCast : ((78125 ^ 2 * fNom * prescale : Nat) : ℝ) = 78125 ^ 2 * fNom * prescale := by norm_num
  have divisorCast : ((3 * sp.segments * 2 ^ sp.exponent * 32768 ^ 2 * 10 ^ 30 : Nat) : ℝ) =
      3 * sp.segments * (2 ^ sp.exponent : Nat) * 32768 ^ 2 * 10 ^ 30 := by norm_num
  have reaches := spotReaches_iff (sp := sp) (power := power) (factor := 78125 ^ 2 * fNom * prescale)
    (divisor := 3 * sp.segments * 2 ^ sp.exponent * 32768 ^ 2 * 10 ^ 30) n (by rw [lower]; exact power_pos)
    (by positivity) (by positivity)
  rw [lower, ← powerValue, value, factorCast, divisorCast, spotArgument_eq segments_pos.ne' length_pos.ne'] at reaches
  rw [reaches, Int.le_floor, sub_le_iff_le_add]

/-- A spot whose power is positive has the level of it, marked where its bin was moved. -/
theorem spotFigure_of_pos {sp : Spectrum} {fNom prescale floorSquare fO : Nat}
    (above : ¬powerSign sp (correctedPower sp ((sp.sums.drop (spotBin fO fNom prescale (2 ^ sp.exponent) - 1)).take 1)
      floorSquare) ≤ 0) : spotFigure sp fNom prescale floorSquare fO =
      let f := spotLevel (spotReaches sp
        (correctedPower sp ((sp.sums.drop (spotBin fO fNom prescale (2 ^ sp.exponent) - 1)).take 1) floorSquare)
        (78125 ^ 2 * fNom * prescale) (3 * sp.segments * 2 ^ sp.exponent * 32768 ^ 2 * 10 ^ 30))
      { f with flags := { f.flags with offsetClipped := spotClips fO fNom prescale (2 ^ sp.exponent) } } := by
  unfold spotFigure
  dsimp only
  rw [if_neg above]

theorem spotFigure_of_floor {sp : Spectrum} {fNom prescale floorSquare fO : Nat}
    (floored : powerSign sp (correctedPower sp ((sp.sums.drop (spotBin fO fNom prescale (2 ^ sp.exponent) - 1)).take 1)
      floorSquare) ≤ 0) : spotFigure sp fNom prescale floorSquare fO =
      { value := some (-20000)
        flags := { atFloor := true, offsetClipped := spotClips fO fNom prescale (2 ^ sp.exponent) } } := by
  unfold spotFigure
  dsimp only
  rw [if_pos floored]

/-- Settles O56: the power of the one bin is the exact one times a scale, and the level's boundaries are those of its exact
value. -/
theorem spotFiguresAreNearest : Obligations.SpotFiguresAreNearest := by
  unfold Obligations.SpotFiguresAreNearest
  intro m fNom prescale floorSquare fO sp exponent some pos positive sumsLength lengths length p nearest bin clipped g tau
    level figure
  have half : length / 2 - 1 = 2 ^ (m + 1) - 1 := by
    rw [show length = 2 ^ (m + 1) * 2 from pow_succ 2 (m + 1), Nat.mul_div_cancel _ (by decide)]
  have formed : 1 ≤ length / 2 - 1 := by
    have : 2 ≤ 2 ^ (m + 1) := Nat.le_self_pow (Nat.succ_ne_zero m) 2
    omega
  have wide : 2 ^ sp.exponent = length := by rw [exponent]
  have binIs : spotBin fO fNom prescale length = bin := spotBin_eq formed
  have clips : spotClips fO fNom prescale length = clipped := by
    rw [spotClips, binIs]
    exact decide_eq_decide.mpr ne_comm
  obtain ⟨least, most⟩ := spotBin_bounds (fO := fO) (fNom := fNom) (prescale := prescale) formed
  rw [binIs] at least most
  let taken := (sp.sums.drop (bin - 1)).take 1
  have takenLengths : ∀ sum ∈ taken, sum.length = 2 ^ (m + 1) := fun sum mem =>
    lengths sum (List.mem_of_mem_drop (List.mem_of_mem_take mem))
  have one : taken.length = 1 := by
    rw [List.length_take, List.length_drop]
    omega
  have powers : (taken.map (powerValue m)).sum = 32 * p bin := by
    have summed := sum_map_take_drop (powerValue m) [] (l := sp.sums) (first := bin - 1) (count := 1) (by omega)
    rw [Finset.sum_range_one, Nat.add_zero] at summed
    rw [summed, mul_div_cancel₀ _ (by norm_num : (32 : ℝ) ≠ 0)]
    rfl
  have value : powerValue m (correctedPower sp taken floorSquare) = 6 * sp.segments * (length : ℝ) ^ 2 * g := by
    rw [powerValue_scaled exponent some takenLengths, one, powers]
    push_cast [g, length]
    ring
  have scale : (0 : ℝ) < 6 * sp.segments * (length : ℝ) ^ 2 := by positivity
  have spotTaken : (sp.sums.drop (spotBin fO fNom prescale (2 ^ sp.exponent) - 1)).take 1 = taken := by rw [wide, binIs]
  refine ⟨fun nonpos => ?_, fun above => ?_⟩
  · have floored : powerSign sp (correctedPower sp taken floorSquare) ≤ 0 := by
      rw [powerSign_nonpos_iff exponent, value]
      exact mul_nonpos_of_nonneg_of_nonpos scale.le nonpos
    refine (spotFigure_of_floor (by rw [spotTaken]; exact floored)).trans ?_
    rw [wide, clips]
  · have audible : ¬powerSign sp (correctedPower sp taken floorSquare) ≤ 0 := by
      rw [powerSign_nonpos_iff exponent, value]
      exact not_le.mpr (mul_pos scale above)
    have upTo := spotReaches_iff_le_floor exponent some pos positive (value.trans (by rw [wide])) above
    have low := Int.floor_le (level + 1 / 2)
    have high := Int.lt_floor_add_one (level + 1 / 2)
    have rounded : 1000 * Real.logb 10 (g * (78125 / 32768 / 10 ^ 15) ^ 2 * (2 * Real.pi ^ 2) * fNom * prescale *
        (2 ^ sp.exponent : Nat)) = level := by rw [wide]
    rw [rounded] at upTo
    refine ⟨⌊level + 1 / 2⌋, by linarith, by linarith,
      (spotFigure_of_pos (by rw [spotTaken]; exact audible)).trans ?_⟩
    dsimp only
    rw [spotTaken, spotLevel_eq upTo, wide, clips]
    split_ifs <;> rfl

end Sys2Proof.Machine
end
